-- ==== Sys2Proof/Word.lean ====
section
/-!
DEFINITION. The bit vectors of the block (00_scope.md R5, R6) and the words that can be presented to it: the 56-bit operation word of
30_encoding.md R42 and the two wire frames of R47 and R48. Every quantity is unsigned and has a stated width (R6, R52).
-/
namespace Sys2Proof

/-- 00_scope.md R6: a byte is 8 bits, bit 7 the most significant. -/
abbrev Byte := BitVec 8

/-- A 16-bit opcode, parameter, or half of a float (00_scope.md R5). -/
abbrev Half := BitVec 16

/-- 30_encoding.md R51: the 32 opaque bits of a decoded float. -/
abbrev FloatWord := BitVec 32

/-- 30_encoding.md R42: the 56-bit operation word, select code in bits 55:48, payload `p0` .. `p5` below it. -/
abbrev OpWord := BitVec 56

/-- A word in one of the three formats of spec/opcode_table.json, first byte most significant. Only `opw` words reach the block's
`op_word` port (10_state.md R25). A `wire2` or `wire5` word is a sensor command frame (30_encoding.md R57), by which the host's
driver asks for the encode operation that builds it (45_wire_commands.md R90 to R100; log entry 5). -/
inductive Word
  | opw (w : OpWord)          -- 30_encoding.md R42
  | wire2 (w : BitVec 16)     -- 30_encoding.md R47, the short frame
  | wire5 (w : BitVec 40)     -- 30_encoding.md R48, the long frame
  deriving DecidableEq, Repr

end Sys2Proof
end

