-- ==== Sys2Proof/Config.lean ====
section
/-!
DEFINITION. The hardwired constants of the block (00_scope.md R5, 10_state.md R23), the eleven fixed sensor opcodes
(45_wire_commands.md R90 to R100), and the two parameters the spec leaves OPEN (92_eei_decisions.md D23, D24), which have no body here.
-/
namespace Sys2Proof

/-- `POLY` (00_scope.md R5): the polynomial constant, its leading term left out. -/
def Config.poly : Byte := 0x31#8

/-- `INIT` (00_scope.md R5): the register before the first byte. There is no value XORed onto the result (`XOROUT = 0x00`). -/
def Config.crcInit : Byte := 0xFF#8

/-- "for 8 iterations" (00_scope.md R5). -/
def Config.iterations : Nat := 8

/-- The two settings of `ready_rule` (92_eei_decisions.md D23). -/
inductive ReadyRule
  | lowByte   -- ready when `data[7:0] != 0`
  | word      -- ready when `data != 0`
  deriving DecidableEq, Repr, Inhabited

/-- OPEN parameter `ready_rule` (92_eei_decisions.md D23), outside the block: no body, so nothing rests on either setting. -/
opaque Config.readyRule : ReadyRule

/-- OPEN parameter `fw_check` (92_eei_decisions.md D24), outside the block: no body, so nothing rests on either setting. -/
opaque Config.fwCheck : Bool

/-- The 16-bit parameter of a temperature offset that does not fit (92_eei_decisions.md D30, 93_implementation_defined.md U6), outside the
block: a free value, with no body (log entry 10). -/
opaque Config.temperatureUnstated : Rat → Half

/-- The default bus address of the sensor (45_wire_commands.md R107), outside the block. -/
def Config.defaultAddress : BitVec 7 := 0x61#7

/-- 45_wire_commands.md R90. -/
def Config.opcStartContinuous : Half := 0x0010#16
/-- 45_wire_commands.md R91. -/
def Config.opcStopContinuous : Half := 0x0104#16
/-- 45_wire_commands.md R92. -/
def Config.opcSetInterval : Half := 0x4600#16
/-- 45_wire_commands.md R93. -/
def Config.opcGetDataReady : Half := 0x0202#16
/-- 45_wire_commands.md R94. -/
def Config.opcReadMeasurement : Half := 0x0300#16
/-- 45_wire_commands.md R95. -/
def Config.opcSetAsc : Half := 0x5306#16
/-- 45_wire_commands.md R96. -/
def Config.opcSetFrc : Half := 0x5204#16
/-- 45_wire_commands.md R97. -/
def Config.opcSetTempOffset : Half := 0x5403#16
/-- 45_wire_commands.md R98. -/
def Config.opcSetAltitude : Half := 0x5102#16
/-- 45_wire_commands.md R99. -/
def Config.opcSoftReset : Half := 0xD304#16
/-- 45_wire_commands.md R100. -/
def Config.opcGetFirmwareVersion : Half := 0xD100#16

end Sys2Proof
end

