-- ==== Sys2Proof/Machine/Bytes.lean ====
section
/-!
DEFINITION. Byte order: the split and join helpers of 00_scope.md R8, by the big-endian rules of 20_memory.md R28 and R29.
-/
namespace Sys2Proof.Machine

/-- The more significant byte, the one first on the wire (20_memory.md R28). -/
def hi8 (w : Half) : Byte := w.extractLsb' 8 8

/-- The less significant byte (20_memory.md R28). -/
def lo8 (w : Half) : Byte := w.extractLsb' 0 8

/-- Two bytes in wire order read as a 16-bit value (20_memory.md R28). -/
def be16 (a b : Byte) : Half := a ++ b

/-- Four bytes in wire order read as a 32-bit value (20_memory.md R29). -/
def be32 (a b c d : Byte) : FloatWord := a ++ b ++ c ++ d

/-- A 16-bit value as its two bytes in wire order (20_memory.md R28). -/
def bytesOf (w : Half) : List Byte := [hi8 w, lo8 w]

end Sys2Proof.Machine
end

