-- ==== Sys2Proof/Machine/Operands.lean ====
section
/-!
DEFINITION. Operand forms: the fields of the operation word (30_encoding.md R42, R44), its pad (R45), and the fields of the wire frames
(R47, R48). Operands are used at their own width, neither extended nor scaled (R52).
-/
namespace Sys2Proof.Machine

/-- The select code, bits 55:48 (30_encoding.md R42). -/
def sel (w : OpWord) : Byte := w.extractLsb' 48 8

/-- Payload byte `p0`, bits 47:40 (30_encoding.md R42). -/
def p0 (w : OpWord) : Byte := w.extractLsb' 40 8
/-- Payload byte `p1`, bits 39:32. -/
def p1 (w : OpWord) : Byte := w.extractLsb' 32 8
/-- Payload byte `p2`, bits 31:24. -/
def p2 (w : OpWord) : Byte := w.extractLsb' 24 8
/-- Payload byte `p3`, bits 23:16. -/
def p3 (w : OpWord) : Byte := w.extractLsb' 16 8
/-- Payload byte `p4`, bits 15:8. -/
def p4 (w : OpWord) : Byte := w.extractLsb' 8 8
/-- Payload byte `p5`, bits 7:0. -/
def p5 (w : OpWord) : Byte := w.extractLsb' 0 8

/-- The unused payload bytes of an operation are all zero (30_encoding.md R44, R45). -/
def padZero (bytes : List Byte) : Bool := bytes.all fun x => x == 0#8

/-- The operation word with the given select code and payload, the select code in the most significant byte (30_encoding.md R42). -/
def opWordOf (k q0 q1 q2 q3 q4 q5 : Byte) : OpWord := k ++ q0 ++ q1 ++ q2 ++ q3 ++ q4 ++ q5

/-- The long frame as one 40-bit value (30_encoding.md R48). -/
def longFrameOf (opc par : Half) (crc : Byte) : BitVec 40 := opc ++ par ++ crc

/-- The opcode operand of the encode operations (30_encoding.md R44). -/
def opcodeOperand (w : OpWord) : Half := be16 (p0 w) (p1 w)

/-- The parameter operand of `ENC_CMD_P` (30_encoding.md R44). -/
def parameterOperand (w : OpWord) : Half := be16 (p2 w) (p3 w)

/-- Bits 39:24 of a long frame (30_encoding.md R48). -/
def frameOpcode (w : BitVec 40) : Half := w.extractLsb' 24 16
/-- Bits 23:8 of a long frame (30_encoding.md R48). -/
def frameParameter (w : BitVec 40) : Half := w.extractLsb' 8 16
/-- Bits 7:0 of a long frame (30_encoding.md R48). -/
def frameChecksum (w : BitVec 40) : Byte := w.extractLsb' 0 8

/-- A word from bytes in wire order, by its length: seven bytes an operation word, two a short frame, five a long frame
(30_encoding.md R42, R47, R48); no other length is a word (R53). -/
def wordOfBytes : List Byte → Option Word
  | [b0, b1] => some (.wire2 (be16 b0 b1))
  | [b0, b1, b2, b3, b4] => some (.wire5 (longFrameOf (be16 b0 b1) (be16 b2 b3) b4))
  | [b0, b1, b2, b3, b4, b5, b6] => some (.opw (opWordOf b0 b1 b2 b3 b4 b5 b6))
  | _ => none

/-- The bytes of a word in wire order, first byte most significant (20_memory.md R27, 30_encoding.md R42, R47, R48). -/
def bytesOfWord : Word → List Byte
  | .wire2 w => bytesOf w
  | .wire5 w => bytesOf (frameOpcode w) ++ bytesOf (frameParameter w) ++ [frameChecksum w]
  | .opw w => [sel w, p0 w, p1 w, p2 w, p3 w, p4 w, p5 w]

end Sys2Proof.Machine
end

