-- ==== Sys2Proof/Syntax.lean ====
section
/-!
DEFINITION. The syntax: one constructor per row of spec/opcode_table.json. The first six are the block's operations
(30_encoding.md R43, operands R44); the other eleven are the source's sensor commands (R57, 45_wire_commands.md R90 to R100).
-/
namespace Sys2Proof

inductive Instr
  | crcInit                                        -- CRC_INIT, R62
  | crcByte (b : Byte)                             -- CRC_BYTE, R63
  | encCmd (opc : Half)                            -- ENC_CMD, R74
  | encCmdP (opc par : Half)                       -- ENC_CMD_P, R75
  | decGroup (d0 d1 c : Byte)                      -- DEC_GROUP, R81
  | decFloat (a0 a1 ca b0 b1 cb : Byte)            -- DEC_FLOAT, R82
  | startContinuous (par : Half) (crc : Byte)      -- START_CONTINUOUS, R90
  | stopContinuous                                 -- STOP_CONTINUOUS, R91
  | setInterval (par : Half) (crc : Byte)          -- SET_INTERVAL, R92
  | getDataReady                                   -- GET_DATA_READY, R93
  | readMeasurement                                -- READ_MEASUREMENT, R94
  | setAsc (par : Half) (crc : Byte)               -- SET_ASC, R95
  | setFrc (par : Half) (crc : Byte)               -- SET_FRC, R96
  | setTempOffset (par : Half) (crc : Byte)        -- SET_TEMP_OFFSET, R97
  | setAltitude (par : Half) (crc : Byte)          -- SET_ALTITUDE, R98
  | softReset                                      -- SOFT_RESET, R99
  | getFirmwareVersion                             -- GET_FIRMWARE_VERSION, R100
  deriving DecidableEq, Repr

end Sys2Proof
end

