-- ==== Sys2Proof/Decode.lean ====
section
/-!
DEFINITION. The decoder, total on any word and any bytes, rejecting by name (30_encoding.md R43 to R46, R57), and the encoder, written
from the same tables.
-/
namespace Sys2Proof

/-- Why a word is no row of the table. -/
inductive DecodeError
  | unknownSelect   -- 30_encoding.md R46: one of the 250 select codes that name nothing
  | nonZeroPad      -- 30_encoding.md R45: a known select code with a pad bit set
  | unknownOpcode   -- a wire frame whose opcode is none of the eleven (45_wire_commands.md R89)
  | badLength       -- bytes that are neither 2, 5 nor 7 (30_encoding.md R53)
  deriving DecidableEq, Repr

/-- `i` when the operation's unused payload bytes are zero (30_encoding.md R45). -/
def withPad (pad : List Byte) (i : Instr) : Except DecodeError Instr :=
  if Machine.padZero pad then .ok i else .error .nonZeroPad

/-- The operation word: select code first (30_encoding.md R43), then the pad (R45), then the operands (R44). -/
def decodeOpw (w : OpWord) : Except DecodeError Instr :=
  let q0 := Machine.p0 w
  let q1 := Machine.p1 w
  let q2 := Machine.p2 w
  let q3 := Machine.p3 w
  let q4 := Machine.p4 w
  let q5 := Machine.p5 w
  if Machine.sel w = 0x01#8 then withPad [q0, q1, q2, q3, q4, q5] .crcInit
  else if Machine.sel w = 0x02#8 then withPad [q1, q2, q3, q4, q5] (.crcByte q0)
  else if Machine.sel w = 0x10#8 then withPad [q2, q3, q4, q5] (.encCmd (Machine.opcodeOperand w))
  else if Machine.sel w = 0x11#8 then withPad [q4, q5] (.encCmdP (Machine.opcodeOperand w) (Machine.parameterOperand w))
  else if Machine.sel w = 0x20#8 then withPad [q3, q4, q5] (.decGroup q0 q1 q2)
  else if Machine.sel w = 0x21#8 then withPad [] (.decFloat q0 q1 q2 q3 q4 q5)
  else .error .unknownSelect

/-- A short command frame: the five opcodes without a parameter (45_wire_commands.md R91, R93, R94, R99, R100). -/
def decodeWire2 (w : BitVec 16) : Except DecodeError Instr :=
  if w = Config.opcStopContinuous then .ok .stopContinuous
  else if w = Config.opcGetDataReady then .ok .getDataReady
  else if w = Config.opcReadMeasurement then .ok .readMeasurement
  else if w = Config.opcSoftReset then .ok .softReset
  else if w = Config.opcGetFirmwareVersion then .ok .getFirmwareVersion
  else .error .unknownOpcode

/-- A long command frame: the six opcodes with a parameter (45_wire_commands.md R90, R92, R95 to R98). The mask of such a row fixes
the opcode only (30_encoding.md R57), so the checksum byte takes any value here; `Instr.wf` says when it is right. -/
def decodeWire5 (w : BitVec 40) : Except DecodeError Instr :=
  let opc := Machine.frameOpcode w
  let par := Machine.frameParameter w
  let crc := Machine.frameChecksum w
  if opc = Config.opcStartContinuous then .ok (.startContinuous par crc)
  else if opc = Config.opcSetInterval then .ok (.setInterval par crc)
  else if opc = Config.opcSetAsc then .ok (.setAsc par crc)
  else if opc = Config.opcSetFrc then .ok (.setFrc par crc)
  else if opc = Config.opcSetTempOffset then .ok (.setTempOffset par crc)
  else if opc = Config.opcSetAltitude then .ok (.setAltitude par crc)
  else .error .unknownOpcode

/-- The decoder: total, one verdict per word (30_encoding.md R46). -/
def decode : Word → Except DecodeError Instr
  | .opw w => decodeOpw w
  | .wire2 w => decodeWire2 w
  | .wire5 w => decodeWire5 w

/-- The decoder on any bytes, in wire order; the length chooses the format (30_encoding.md R53). -/
def decodeBytes (bs : List Byte) : Except DecodeError Instr :=
  match Machine.wordOfBytes bs with
  | some w => decode w
  | none => .error .badLength

/-- A word from its width and its bits, bit 0 the least significant, as spec/opcode_table.json numbers them: 56 for `OPW`, 40 for
`WIRE5`, 16 for `WIRE2` (30_encoding.md R57). -/
def wordOfBits (nbits w : Nat) : Option Word :=
  if nbits = 56 then some (.opw (BitVec.ofNat 56 w))
  else if nbits = 40 then some (.wire5 (BitVec.ofNat 40 w))
  else if nbits = 16 then some (.wire2 (BitVec.ofNat 16 w))
  else none

/-- The instruction the decoder reads from the `nbits` bits of `w`, numbered as the table numbers them. -/
def decodeTableWord (nbits w : Nat) : Option Instr :=
  match wordOfBits nbits w with
  | some x => (decode x).toOption
  | none => none

/-- The encoder, from 30_encoding.md R43 and R44 for the operations and R47, R48 for the command frames. -/
def encode : Instr → Word
  | .crcInit => .opw (Machine.opWordOf 0x01#8 0#8 0#8 0#8 0#8 0#8 0#8)
  | .crcByte b => .opw (Machine.opWordOf 0x02#8 b 0#8 0#8 0#8 0#8 0#8)
  | .encCmd opc => .opw (Machine.opWordOf 0x10#8 (Machine.hi8 opc) (Machine.lo8 opc) 0#8 0#8 0#8 0#8)
  | .encCmdP opc par =>
    .opw (Machine.opWordOf 0x11#8 (Machine.hi8 opc) (Machine.lo8 opc) (Machine.hi8 par) (Machine.lo8 par) 0#8 0#8)
  | .decGroup d0 d1 c => .opw (Machine.opWordOf 0x20#8 d0 d1 c 0#8 0#8 0#8)
  | .decFloat a0 a1 ca b0 b1 cb => .opw (Machine.opWordOf 0x21#8 a0 a1 ca b0 b1 cb)
  | .startContinuous par crc => .wire5 (Machine.longFrameOf Config.opcStartContinuous par crc)
  | .stopContinuous => .wire2 Config.opcStopContinuous
  | .setInterval par crc => .wire5 (Machine.longFrameOf Config.opcSetInterval par crc)
  | .getDataReady => .wire2 Config.opcGetDataReady
  | .readMeasurement => .wire2 Config.opcReadMeasurement
  | .setAsc par crc => .wire5 (Machine.longFrameOf Config.opcSetAsc par crc)
  | .setFrc par crc => .wire5 (Machine.longFrameOf Config.opcSetFrc par crc)
  | .setTempOffset par crc => .wire5 (Machine.longFrameOf Config.opcSetTempOffset par crc)
  | .setAltitude par crc => .wire5 (Machine.longFrameOf Config.opcSetAltitude par crc)
  | .softReset => .wire2 Config.opcSoftReset
  | .getFirmwareVersion => .wire2 Config.opcGetFirmwareVersion

end Sys2Proof
end

