-- ==== Sys2Proof/Machine/Crc.lean ====
section
/-!
DEFINITION. The checksum as pure functions: 40_checksum_engine.md R58 to R61, the two equivalent forms of R66 and R67, and the
group test of 42_frame_codec_decode.md R80. None of them reads or writes state (10_state.md R22).
-/
namespace Sys2Proof.Machine

/-- One iteration, 40_checksum_engine.md R59: bit 7 is tested, then shifted out and lost. -/
def crcBit (r : Byte) : Byte :=
  if r.getLsbD 7 then (r <<< 1) ^^^ Config.poly else r <<< 1

/-- `n` iterations of `crcBit`: the `crc_bit^n` of 00_scope.md R8. -/
def crcBits : Nat → Byte → Byte
  | 0, r => r
  | n + 1, r => crcBits n (crcBit r)

/-- One input byte, 40_checksum_engine.md R60: the whole byte is XORed on first, then eight iterations follow. -/
def crcByte (r b : Byte) : Byte := crcBits Config.iterations (r ^^^ b)

/-- The fold of R61 from any start value; `crc0` of R68 is this from `0x00`. -/
def crcFrom (r : Byte) (s : List Byte) : Byte := s.foldl crcByte r

/-- `checksum(bytes)`, 40_checksum_engine.md R61. -/
def crc8 (s : List Byte) : Byte := crcFrom Config.crcInit s

/-- The validity test of one group, 42_frame_codec_decode.md R80. -/
def groupOk (d0 d1 c : Byte) : Bool := crc8 [d0, d1] == c

/-- The same test on a group as one 24-bit value, first byte most significant (30_encoding.md R49). -/
def groupWordOk (g : BitVec 24) : Bool := groupOk (g.extractLsb' 16 8) (g.extractLsb' 8 8) (g.extractLsb' 0 8)

/-- An error pattern flips an odd number of the 24 bits (40_checksum_engine.md R71 (c)): the exclusive or of its bits. -/
def oddFlips (e : BitVec 24) : Bool := (List.range 24).foldl (fun acc k => acc ^^ e.getLsbD k) false

/-- One input byte in the combinational form of 40_checksum_engine.md R67, written from its eight equations. -/
def crcByteXor (r b : Byte) : Byte :=
  let x := r ^^^ b
  BitVec.ofBoolListBE
    [ x[5] ^^ x[3] ^^ x[2],
      x[7] ^^ x[4] ^^ x[2] ^^ x[1],
      x[7] ^^ x[6] ^^ x[3] ^^ x[1] ^^ x[0],
      x[7] ^^ x[6] ^^ x[3] ^^ x[0],
      x[7] ^^ x[6] ^^ x[3],
      x[6] ^^ x[5] ^^ x[2],
      x[7] ^^ x[5] ^^ x[4] ^^ x[1],
      x[6] ^^ x[4] ^^ x[3] ^^ x[0] ]

end Sys2Proof.Machine
end

