-- ==== Sys2Proof/Machine/Flags.lean ====
section
/-!
DEFINITION. The outcome codes of `err` (10_state.md R16, 60_exceptions.md R109) and the layout of the `STATUS` view (10_state.md R17).
The block has no other flag (R16).
-/
namespace Sys2Proof.Machine

/-- `OK`: the operation raised nothing (10_state.md R16). -/
def errOk : BitVec 2 := 0b00#2

/-- `CHECKSUM_MISMATCH` (10_state.md R16, 60_exceptions.md R110). -/
def errChecksumMismatch : BitVec 2 := 0b01#2

/-- `ILLEGAL_OP` (10_state.md R16, 60_exceptions.md R111). -/
def errIllegalOp : BitVec 2 := 0b10#2

/-- The reserved code, never produced by the block (10_state.md R16). -/
def errReserved : BitVec 2 := 0b11#2

/-- The `STATUS` byte (10_state.md R17): bit 7 zero, bits 6:4 `txlen`, bit 3 `fword_valid`, bit 2 `data_valid`, bits 1:0 `err`. -/
def statusByte (err : BitVec 2) (dataValid fwordValid : Bool) (txlen : BitVec 3) : Byte :=
  0#1 ++ txlen ++ BitVec.ofBool fwordValid ++ BitVec.ofBool dataValid ++ err

end Sys2Proof.Machine
end

