-- ==== Sys2Proof/Machine/State.lean ====
section
/-!
DEFINITION. The state of the block (10_state.md R11), its ports (R25), what the host can do to it (70_reset_and_hazards.md R134), the
ways a step can stop, and the state after reset (10_state.md R24).
-/
namespace Sys2Proof.Machine

/-- The output ports (10_state.md R25). `txbuf i` is one byte of the frame latch, `txbufAll` the packed 40-bit port. -/
inductive Port
  | crc
  | txbuf (i : Fin 5)
  | txbufAll
  | txlen
  | data
  | dataValid
  | fword
  | fwordValid
  | err
  | status
  deriving DecidableEq, Repr

/-- What the host does to the block, one event a step (00_scope.md R10, 70_reset_and_hazards.md R134). -/
inductive HostEvent
  /-- The host presents a word (10_state.md R25 `op_valid`, `op_word`); a wire frame stands for the encode operation that builds it
  (log entry 5). -/
  | present (w : Word)
  /-- The reset event, with the operation word presented at the same time, if any, which is then not performed
  (70_reset_and_hazards.md R122). -/
  | reset (op : Option OpWord)
  /-- The host uses the value on an output port (70_reset_and_hazards.md R126, R134). -/
  | read (p : Port)
  /-- A second agent presents a word (20_memory.md R41, 60_exceptions.md R121, 70_reset_and_hazards.md R129). -/
  | secondHost (w : Word)
  deriving DecidableEq, Repr

/-- The architectural state, 10_state.md R11, and the model's own list of what the host will do next. A latch is optional because the
spec makes "holds no value" a state of it (00_scope.md R9, 10_state.md R24; log entry 2). -/
structure State where
  /-- The accumulator (10_state.md R12). -/
  crc : Byte
  /-- The outgoing frame, index 0 first on the wire (10_state.md R13). -/
  txbuf : Vector (Option Byte) 5
  /-- How many bytes of `txbuf` hold a value (10_state.md R13). -/
  txlen : BitVec 3
  /-- The datum of the last group that passed (10_state.md R14). -/
  data : Option Half
  /-- `data_valid` (10_state.md R14). -/
  dataValid : Bool
  /-- The float word of the last pair that passed (10_state.md R15). -/
  fword : Option FloatWord
  /-- `fword_valid` (10_state.md R15). -/
  fwordValid : Bool
  /-- The outcome of the most recent operation (10_state.md R16). -/
  err : BitVec 2
  /-- THE MODEL'S OWN FIELD: what the host will do next, oldest first (00_scope.md R10, 70_reset_and_hazards.md R133; log entry 1). -/
  pending : List HostEvent
  deriving DecidableEq, Repr

/-- The one way a step of this machine faults. -/
inductive Fault
  /-- Raised by the host's read of a port whose latch holds no value (70_reset_and_hazards.md R126, R133; 92_eei_decisions.md D29).
  Safe: the wires carry an unspecified pattern there, and the model supplies no number. -/
  | emptyLatch (p : Port)
  deriving DecidableEq, Repr

/-- Why a step has no meaning. -/
inductive Refusal
  /-- Raised by an arm of `exec` whose instruction has no meaning yet; no arm is so. Safe. -/
  | notModelled (mnemonic : String)
  /-- Raised by a wire frame whose opcode is none of the eleven commands: no row of the table, and no operation word
  (45_wire_commands.md R89; log entry 7). Safe. -/
  | unknownCommand
  /-- Raised by a word that a second host presents (93_implementation_defined.md U1; log entry 8). Safe. -/
  | secondHost
  deriving DecidableEq, Repr

/-- A frame latch that holds no value in any byte (10_state.md R24). -/
def emptyFrame : Vector (Option Byte) 5 := #v[none, none, none, none, none]

/-- The machine right after reset: 10_state.md R24, with nothing asked of it yet (log entry 1). -/
def State.reset : State where
  crc := Config.crcInit
  txbuf := emptyFrame
  txlen := 0#3
  data := none
  dataValid := false
  fword := none
  fwordValid := false
  err := errOk
  pending := []

end Sys2Proof.Machine
end

