-- ==== Sys2Proof/Machine/Ops.lean ====
section
/-!
DEFINITION. The named operations on the state: writing the registers (10_state.md R11 to R16), raising an error as one shared operation
(60_exceptions.md R110, R111, R116), reset (70_reset_and_hazards.md R122) and reading the ports (10_state.md R25, 70 R126).
There is no return from an error and no clear operation (60_exceptions.md R117): the next operation overwrites `err`.
-/
namespace Sys2Proof.Machine

/-- Write the accumulator (10_state.md R12). -/
def writeCrc (v : Byte) (s : State) : State := { s with crc := v }

/-- Write the outcome code (10_state.md R16). -/
def writeErr (e : BitVec 2) (s : State) : State := { s with err := e }

/-- Latch a short frame: two bytes hold values, the other three none (10_state.md R13, 30_encoding.md R47). -/
def latchShortFrame (opc : Half) (s : State) : State :=
  { s with txbuf := #v[some (hi8 opc), some (lo8 opc), none, none, none], txlen := 2#3 }

/-- Latch a long frame: opcode, parameter, and the checksum of the two parameter bytes (10_state.md R13, 30_encoding.md R48). -/
def latchLongFrame (opc par : Half) (s : State) : State :=
  { s with
    txbuf := #v[some (hi8 opc), some (lo8 opc), some (hi8 par), some (lo8 par), some (crc8 (bytesOf par))]
    txlen := 5#3 }

/-- Latch a datum that passed its check (10_state.md R14). -/
def latchData (v : Half) (s : State) : State := { s with data := some v, dataValid := true }

/-- Latch a float word whose two groups passed (10_state.md R15). -/
def latchFword (v : FloatWord) (s : State) : State := { s with fword := some v, fwordValid := true }

/-- The two latches a failing decode can empty (60_exceptions.md R110). -/
inductive DecodeLatch
  | data
  | fword
  deriving DecidableEq, Repr

/-- The latch holds no value afterwards and its valid bit is 0 (60_exceptions.md R110). -/
def emptyDecodeLatch (l : DecodeLatch) (s : State) : State :=
  match l with
  | .data => { s with data := none, dataValid := false }
  | .fword => { s with fword := none, fwordValid := false }

/-- The two errors the block can raise (60_exceptions.md R109). -/
inductive BlockError
  | checksumMismatch (l : DecodeLatch)
  | illegalOperation
  deriving DecidableEq, Repr

/-- Raise an error: the code goes to `err`, a failed decode empties its own latch, and nothing else changes; no state is saved and
control goes nowhere (60_exceptions.md R110, R111, R116). -/
def raiseError (e : BlockError) (s : State) : State :=
  match e with
  | .checksumMismatch l => writeErr errChecksumMismatch (emptyDecodeLatch l s)
  | .illegalOperation => writeErr errIllegalOp s

/-- End an operation that raised nothing (10_state.md R16). -/
def succeed (s : State) : State := writeErr errOk s

/-- The reset event: every register at its reset value (70_reset_and_hazards.md R122); what the host will do next stays (log entry 3). -/
def resetBlock (s : State) : State := { State.reset with pending := s.pending }

/-- The `STATUS` view (10_state.md R17). -/
def status (s : State) : Byte := statusByte s.err s.dataValid s.fwordValid s.txlen

/-- The width of a port (10_state.md R25). -/
def Port.width : Port → Nat
  | .crc => 8
  | .txbuf _ => 8
  | .txbufAll => 40
  | .txlen => 3
  | .data => 16
  | .dataValid => 1
  | .fword => 32
  | .fwordValid => 1
  | .err => 2
  | .status => 8

/-- The packed 40-bit `txbuf` port, `txbuf[0]` in bits 39:32 (10_state.md R25): a value only when all five bytes hold one. -/
def packedFrame (b : Vector (Option Byte) 5) : Option (BitVec 40) :=
  match b[0], b[1], b[2], b[3], b[4] with
  | some b0, some b1, some b2, some b3, some b4 => some (b0 ++ b1 ++ b2 ++ b3 ++ b4)
  | _, _, _, _, _ => none

/-- What the host gets when it reads a port, none where the port's latch holds no value (10_state.md R25, 70_reset_and_hazards.md R126).
Reading changes nothing (20_memory.md R37). -/
def portValue (s : State) : (p : Port) → Option (BitVec p.width)
  | .crc => some s.crc
  | .txbuf i => s.txbuf[i]
  | .txbufAll => packedFrame s.txbuf
  | .txlen => some s.txlen
  | .data => s.data
  | .dataValid => some (BitVec.ofBool s.dataValid)
  | .fword => s.fword
  | .fwordValid => some (BitVec.ofBool s.fwordValid)
  | .err => some s.err
  | .status => some (status s)

/-- The host uses a port's value: nothing changes, and using an empty latch is a fault of the host (20_memory.md R37,
70_reset_and_hazards.md R126, 92_eei_decisions.md D29). -/
def usePort (p : Port) (s : State) : Host.Outcome State Fault Refusal :=
  if (portValue s p).isSome then .next s else .fault (.emptyLatch p)

/-- The frame to put on the bus: `txbuf[0..txlen-1]`, index 0 first (10_state.md R13, 41_frame_codec_encode.md R79). -/
def txFrame (s : State) : List Byte := (s.txbuf.toList.take s.txlen.toNat).filterMap id

/-- One outcome after another: the second is asked only of a next state. -/
def andThen (o : Host.Outcome State Fault Refusal) (f : State → Host.Outcome State Fault Refusal) :
    Host.Outcome State Fault Refusal :=
  match o with
  | .next s => f s
  | .fault r => .fault r
  | .refused r => .refused r

end Sys2Proof.Machine
end

