-- ==== Sys2Proof/Machine/Checksum.lean ====
section
/-!
DEFINITION. The checksum engine's two operations (40_checksum_engine.md R62, R63). They touch no latch (10_state.md R11).
-/
namespace Sys2Proof.Machine

/-- `CRC_INIT` (40_checksum_engine.md R62). -/
def execCrcInit (s : State) : Host.Outcome State Fault Refusal :=
  .next (succeed (writeCrc Config.crcInit s))

/-- `CRC_BYTE b` (40_checksum_engine.md R63). -/
def execCrcByte (b : Byte) (s : State) : Host.Outcome State Fault Refusal :=
  .next (succeed (writeCrc (Sys2Proof.Machine.crcByte s.crc b) s))

end Sys2Proof.Machine
end

