-- ==== Sys2Proof/Machine/FrameDecode.lean ====
section
/-!
DEFINITION. The frame codec's decode operations (42_frame_codec_decode.md R81, R82). They read no register (R87), and a failed one
yields nothing, not even in part (R83).
-/
namespace Sys2Proof.Machine

/-- `DEC_GROUP d0, d1, c` (42_frame_codec_decode.md R81). -/
def execDecGroup (d0 d1 c : Byte) (s : State) : Host.Outcome State Fault Refusal :=
  if groupOk d0 d1 c then .next (succeed (latchData (be16 d0 d1) s))
  else .next (raiseError (.checksumMismatch .data) s)

/-- `DEC_FLOAT a0, a1, ca, b0, b1, cb` (42_frame_codec_decode.md R82): both groups must pass, and the word is the four data bytes. -/
def execDecFloat (a0 a1 ca b0 b1 cb : Byte) (s : State) : Host.Outcome State Fault Refusal :=
  if groupOk a0 a1 ca && groupOk b0 b1 cb then .next (succeed (latchFword (be32 a0 a1 b0 b1) s))
  else .next (raiseError (.checksumMismatch .fword) s)

end Sys2Proof.Machine
end

