-- ==== Sys2Proof/Machine/FrameEncode.lean ====
section
/-!
DEFINITION. The frame codec's encode operations (41_frame_codec_encode.md R74, R75). They check no operand (R78) and do not send (R79).
-/
namespace Sys2Proof.Machine

/-- `ENC_CMD opc` (41_frame_codec_encode.md R74). -/
def execEncCmd (opc : Half) (s : State) : Host.Outcome State Fault Refusal :=
  .next (succeed (latchShortFrame opc s))

/-- `ENC_CMD_P opc, par` (41_frame_codec_encode.md R75). -/
def execEncCmdP (opc par : Half) (s : State) : Host.Outcome State Fault Refusal :=
  .next (succeed (latchLongFrame opc par s))

end Sys2Proof.Machine
end

