-- ==== Sys2Proof/Machine/Wire.lean ====
section
/-!
DEFINITION. The eleven sensor commands (45_wire_commands.md R89 to R100), each by the encode operation the spec says the host issues for
it. The block does not look at an opcode (41_frame_codec_encode.md R78); sending the frame, and the response of a read command, are the
transport's (R101, R102; log entry 5), and the checksum byte of a long frame is the block's output, never its input (log entry 6).
-/
namespace Sys2Proof.Machine

/-- The host sends a command without a parameter: it issues `ENC_CMD opc` (41_frame_codec_encode.md R74). -/
def issueShort (opc : Half) (s : State) : Host.Outcome State Fault Refusal :=
  .next (succeed (latchShortFrame opc s))

/-- The host sends a command with a parameter: it issues `ENC_CMD_P opc, par` (41_frame_codec_encode.md R75). -/
def issueLong (opc par : Half) (s : State) : Host.Outcome State Fault Refusal :=
  .next (succeed (latchLongFrame opc par s))

/-- `START_CONTINUOUS` (45_wire_commands.md R90): the host issues `ENC_CMD_P`. -/
def execStartContinuous (par : Half) (_crc : Byte) (s : State) : Host.Outcome State Fault Refusal :=
  issueLong Config.opcStartContinuous par s

/-- `STOP_CONTINUOUS` (45_wire_commands.md R91): the host issues `ENC_CMD`. -/
def execStopContinuous (s : State) : Host.Outcome State Fault Refusal :=
  issueShort Config.opcStopContinuous s

/-- `SET_INTERVAL` (45_wire_commands.md R92): the host issues `ENC_CMD_P`. -/
def execSetInterval (par : Half) (_crc : Byte) (s : State) : Host.Outcome State Fault Refusal :=
  issueLong Config.opcSetInterval par s

/-- `GET_DATA_READY` (45_wire_commands.md R93): the host issues `ENC_CMD`. -/
def execGetDataReady (s : State) : Host.Outcome State Fault Refusal :=
  issueShort Config.opcGetDataReady s

/-- `READ_MEASUREMENT` (45_wire_commands.md R94): the host issues `ENC_CMD`. -/
def execReadMeasurement (s : State) : Host.Outcome State Fault Refusal :=
  issueShort Config.opcReadMeasurement s

/-- `SET_ASC` (45_wire_commands.md R95): the host issues `ENC_CMD_P`. -/
def execSetAsc (par : Half) (_crc : Byte) (s : State) : Host.Outcome State Fault Refusal :=
  issueLong Config.opcSetAsc par s

/-- `SET_FRC` (45_wire_commands.md R96): the host issues `ENC_CMD_P`. -/
def execSetFrc (par : Half) (_crc : Byte) (s : State) : Host.Outcome State Fault Refusal :=
  issueLong Config.opcSetFrc par s

/-- `SET_TEMP_OFFSET` (45_wire_commands.md R97): the host issues `ENC_CMD_P`. -/
def execSetTempOffset (par : Half) (_crc : Byte) (s : State) : Host.Outcome State Fault Refusal :=
  issueLong Config.opcSetTempOffset par s

/-- `SET_ALTITUDE` (45_wire_commands.md R98): the host issues `ENC_CMD_P`. -/
def execSetAltitude (par : Half) (_crc : Byte) (s : State) : Host.Outcome State Fault Refusal :=
  issueLong Config.opcSetAltitude par s

/-- `SOFT_RESET` (45_wire_commands.md R99): the host issues `ENC_CMD`. The sensor is reset, not the block. -/
def execSoftReset (s : State) : Host.Outcome State Fault Refusal :=
  issueShort Config.opcSoftReset s

/-- `GET_FIRMWARE_VERSION` (45_wire_commands.md R100): the host issues `ENC_CMD`. -/
def execGetFirmwareVersion (s : State) : Host.Outcome State Fault Refusal :=
  issueShort Config.opcGetFirmwareVersion s

end Sys2Proof.Machine
end

