-- ==== Sys2Proof/Machine/Dispatch.lean ====
section
/-!
DEFINITION. One arm per instruction, each one direct call of its meaning.
-/
namespace Sys2Proof.Machine

def exec (i : Instr) (s : State) : Host.Outcome State Fault Refusal :=
  match i with
  | .crcInit => Sys2Proof.Machine.execCrcInit s
  | .crcByte b => Sys2Proof.Machine.execCrcByte b s
  | .encCmd opc => Sys2Proof.Machine.execEncCmd opc s
  | .encCmdP opc par => Sys2Proof.Machine.execEncCmdP opc par s
  | .decGroup d0 d1 c => Sys2Proof.Machine.execDecGroup d0 d1 c s
  | .decFloat a0 a1 ca b0 b1 cb => Sys2Proof.Machine.execDecFloat a0 a1 ca b0 b1 cb s
  | .startContinuous par crc => Sys2Proof.Machine.execStartContinuous par crc s
  | .stopContinuous => Sys2Proof.Machine.execStopContinuous s
  | .setInterval par crc => Sys2Proof.Machine.execSetInterval par crc s
  | .getDataReady => Sys2Proof.Machine.execGetDataReady s
  | .readMeasurement => Sys2Proof.Machine.execReadMeasurement s
  | .setAsc par crc => Sys2Proof.Machine.execSetAsc par crc s
  | .setFrc par crc => Sys2Proof.Machine.execSetFrc par crc s
  | .setTempOffset par crc => Sys2Proof.Machine.execSetTempOffset par crc s
  | .setAltitude par crc => Sys2Proof.Machine.execSetAltitude par crc s
  | .softReset => Sys2Proof.Machine.execSoftReset s
  | .getFirmwareVersion => Sys2Proof.Machine.execGetFirmwareVersion s

end Sys2Proof.Machine
end

