-- ==== Sys2Proof/Machine/HostPort.lean ====
section
/-!
DEFINITION. The block's side of the host: accepting a word (00_scope.md R10, 30_encoding.md R46), every kind of host event
(70_reset_and_hazards.md R134), and lists of words or operations applied in order (10_state.md R19, 70 R133).
-/
namespace Sys2Proof.Machine

/-- A word that is no row of the table. An operation word raises `IllegalOperation` (60_exceptions.md R111); a wire frame of no known
command is no request at all (log entry 7). -/
def rejectWord (w : Word) (s : State) : Host.Outcome State Fault Refusal :=
  match w with
  | .opw _ => .next (raiseError .illegalOperation s)
  | .wire2 _ => .refused .unknownCommand
  | .wire5 _ => .refused .unknownCommand

/-- The host presents a word: it is decoded first (60_exceptions.md R115), then the whole operation is performed (20_memory.md R36). -/
def acceptWord (w : Word) (s : State) : Host.Outcome State Fault Refusal :=
  match decode w with
  | .ok i => exec i s
  | .error _ => rejectWord w s

/-- The step of 00_scope.md R10, `State x OperationWord -> State`, on the 56-bit operation word of the block's port. -/
def acceptOpWord (w : OpWord) (s : State) : Host.Outcome State Fault Refusal := acceptWord (.opw w) s

/-- One host event (70_reset_and_hazards.md R134). Reset overrides an operation presented with it (R122); a second host has no meaning
(93_implementation_defined.md U1). -/
def accept (e : HostEvent) (s : State) : Host.Outcome State Fault Refusal :=
  match e with
  | .present w => acceptWord w s
  | .reset _ => .next (resetBlock s)
  | .read p => usePort p s
  | .secondHost _ => .refused .secondHost

/-- Take the oldest pending event off the list and accept it; with none pending the block does nothing (20_memory.md R39,
70_reset_and_hazards.md R133; log entry 4). -/
def takeEvent (s : State) : Host.Outcome State Fault Refusal :=
  match s.pending with
  | [] => .next s
  | e :: rest => accept e { s with pending := rest }

/-- The same state with `w` as the very next word the host presents. -/
def presentNext (w : Word) (s : State) : State := { s with pending := .present w :: s.pending }

/-- The run of a list of operation words in list order, the program of 10_state.md R19 (70_reset_and_hazards.md R133). -/
def acceptAll : List OpWord → State → Host.Outcome State Fault Refusal
  | [], s => .next s
  | w :: ws, s => andThen (acceptOpWord w s) (acceptAll ws)

/-- A list of operations performed in order. -/
def execAll : List Instr → State → Host.Outcome State Fault Refusal
  | [], s => .next s
  | i :: is, s => andThen (exec i s) (execAll is)

end Sys2Proof.Machine
end

