-- ==== Sys2Proof/Machine/Step.lean ====
section
/-!
DEFINITION. The step of the machine and the placing of an instruction where the next step takes it. There is no program counter and no
fetch (10_state.md R19): the next operation is the word the host presents next.
-/
namespace Sys2Proof.Machine

/-- One step: the block accepts the next thing the host does (00_scope.md R10). -/
def step (s : State) : Host.Outcome State Fault Refusal := Sys2Proof.Machine.takeEvent s

/-- `s` with the word of `nbits` bits `w` as the next word the host presents; a width that is no format of the table changes nothing. -/
def State.withFetchWord (s : State) (nbits w : Nat) : State :=
  match Sys2Proof.wordOfBits nbits w with
  | some x => Sys2Proof.Machine.presentNext x s
  | none => s

end Sys2Proof.Machine
end

