-- ==== Sys2Proof/Machine/Sequences.lean ====
section
/-!
DEFINITION. The pseudo-instructions of 30_encoding.md R56, each by its expansion into operations. The block knows only the operations.
-/
namespace Sys2Proof.Machine

/-- `CHECKSUM [b0, ..., b(n-1)]` (30_encoding.md R56): restart, then feed every byte. -/
def pseudoChecksum (bs : List Byte) : List Instr := Instr.crcInit :: bs.map Instr.crcByte

/-- `ENCODE opc` and `ENCODE opc, par` (30_encoding.md R56). -/
def pseudoEncode (opc : Half) (par : Option Half) : List Instr :=
  match par with
  | none => [Instr.encCmd opc]
  | some p => [Instr.encCmdP opc p]

/-- The `DEC_FLOAT` operations of `DEC_MEAS`, one for each six bytes (30_encoding.md R56); left-over bytes make no operation. -/
def pseudoMeasurement : List Byte → List Instr
  | a0 :: a1 :: ca :: b0 :: b1 :: cb :: rest => Instr.decFloat a0 a1 ca b0 b1 cb :: pseudoMeasurement rest
  | _ => []

/-- `VERIFY_TX` (30_encoding.md R56): check bytes 2 to 4 of the latched frame as a group; none where the latch holds no such bytes. -/
def pseudoVerifyTx (s : State) : Option Instr :=
  match s.txbuf[2], s.txbuf[3], s.txbuf[4] with
  | some d0, some d1, some c => some (Instr.decGroup d0 d1 c)
  | _, _, _ => none

/-- The operation words of a list of the block's operations, as the host presents them (10_state.md R19, 30_encoding.md R55). -/
def wordsOf (is : List Instr) : List OpWord :=
  is.filterMap fun i =>
    match encode i with
    | .opw w => some w
    | _ => none

/-- The host events that present a list of operation words (70_reset_and_hazards.md R133). -/
def presentations (ws : List OpWord) : List HostEvent := ws.map fun w => HostEvent.present (.opw w)

end Sys2Proof.Machine
end

