-- ==== Sys2Proof/Machine/Driver.lean ====
section
/-!
DEFINITION. The software around the block that 45_wire_commands.md transcribes (R88: "a test bench that drives the model the way the
source's driver would needs all of them"): the command dispatcher and the device session, as functions over the block. None of it is
state or behaviour of the block (00_scope.md R4); `step` uses nothing of this file. The transport is the platform's: here it is a list
of the answers it will give and a list of the calls made to it (R107; log entry 9).
-/
namespace Sys2Proof.Machine

/-- The error kinds a caller of the driver sees (60_exceptions.md R109, R112). -/
inductive DriverError
  | checksumMismatch
  | transportError
  | invalidState
  deriving DecidableEq, Repr

/-- The result of a driver call; `noMeaning` where the spec gives none (91_not_in_source.md N9, N23; log entry 9). -/
inductive DriverResult (α : Type)
  | ok (a : α)
  | failed (e : DriverError)
  | noMeaning
  deriving DecidableEq, Repr

/-- What the transport answers (45_wire_commands.md R107). -/
inductive BusReply
  | done
  | bytes (bs : List Byte)
  | failed
  deriving DecidableEq, Repr

/-- A call made to the transport; the direction is the call's, never a bit of the address (45_wire_commands.md R107). -/
inductive BusCall
  | write (addr : BitVec 7) (bs : List Byte)
  | read (addr : BitVec 7) (len : Nat)
  deriving DecidableEq, Repr

/-- The session machine (45_wire_commands.md R108). -/
inductive Session
  | uninitialized
  | opened (addr : BitVec 7)
  | closed
  deriving DecidableEq, Repr

/-- The driver around one block. -/
structure DriverState where
  block : State
  session : Session
  /-- What the transport will answer, oldest first. -/
  replies : List BusReply
  /-- The calls made so far, newest first. -/
  calls : List BusCall
  deriving DecidableEq, Repr

/-- A driver call: a result and the driver afterwards. -/
abbrev DriverCall (α : Type) := DriverState → DriverResult α × DriverState

/-- One call after another; a failure is propagated at once, with no retry (60_exceptions.md R118). -/
def driverThen {α β : Type} (m : DriverCall α) (f : α → DriverCall β) : DriverCall β := fun d =>
  match m d with
  | (.ok a, d') => f a d'
  | (.failed e, d') => (.failed e, d')
  | (.noMeaning, d') => (.noMeaning, d')

/-- The host has the block perform one operation (00_scope.md R10). -/
def driverPerform (i : Instr) : DriverCall Unit := fun d =>
  match exec i d.block with
  | .next t => (.ok (), { d with block := t })
  | .fault _ => (.noMeaning, d)
  | .refused _ => (.noMeaning, d)

/-- The outcome of a decode operation as the caller sees it, read before the next operation (70_reset_and_hazards.md R127). -/
def driverOutcome : DriverCall Unit := fun d =>
  if d.block.err = errOk then (.ok (), d) else (.failed .checksumMismatch, d)

/-- The host uses a latch while it holds a value (70_reset_and_hazards.md R126). -/
def driverUse {α : Type} (latch : State → Option α) : DriverCall α := fun d =>
  match latch d.block with
  | some v => (.ok v, d)
  | none => (.noMeaning, d)

/-- The transport's `write` (45_wire_commands.md R107). -/
def busWrite (addr : BitVec 7) (bs : List Byte) : DriverCall Unit := fun d =>
  let d' := { d with replies := d.replies.tail, calls := .write addr bs :: d.calls }
  match d.replies with
  | .done :: _ => (.ok (), d')
  | .failed :: _ => (.failed .transportError, d')
  | _ => (.noMeaning, d')

/-- The transport's `read`; an answer of another length has no meaning (91_not_in_source.md N9). -/
def busRead (addr : BitVec 7) (len : Nat) : DriverCall (List Byte) := fun d =>
  let d' := { d with replies := d.replies.tail, calls := .read addr len :: d.calls }
  match d.replies with
  | .bytes bs :: _ => if bs.length = len then (.ok bs, d') else (.noMeaning, d')
  | .failed :: _ => (.failed .transportError, d')
  | _ => (.noMeaning, d')

/-- A call that needs the open session's address; any command after Close fails with `InvalidState` (45_wire_commands.md R108). -/
def whenOpen {α : Type} (f : BitVec 7 → DriverCall α) : DriverCall α := fun d =>
  match d.session with
  | .opened addr => f addr d
  | .closed => (.failed .invalidState, d)
  | .uninitialized => (.noMeaning, d)

/-- Write command (45_wire_commands.md R101): encode the frame, one bus write of the full frame. -/
def writeCommand (i : Instr) : DriverCall Unit :=
  whenOpen fun addr => driverThen (driverPerform i) fun _ => fun d => busWrite addr (txFrame d.block) d

/-- Read command (45_wire_commands.md R102): bus write of the opcode, then a bus read of the expected length. -/
def readCommand (i : Instr) (len : Nat) : DriverCall (List Byte) :=
  whenOpen fun addr => driverThen (writeCommand i) fun _ => busRead addr len

/-- A command with a parameter, its frame well formed (30_encoding.md R48). -/
def withParameter (command : Half → Byte → Instr) (par : Half) : Instr := command par (crc8 (bytesOf par))

/-- Check and unpack float words one after another; the first failure ends it with nothing returned (45_wire_commands.md R103,
42_frame_codec_decode.md R83). -/
def decodeFloats : List Instr → DriverCall (List FloatWord)
  | [] => fun d => (.ok [], d)
  | i :: is =>
    driverThen (driverPerform i) fun _ => driverThen driverOutcome fun _ =>
      driverThen (driverUse State.fword) fun f => driverThen (decodeFloats is) fun fs => fun d => (.ok (f :: fs), d)

/-- The three values of a measurement; their units are not in the source (45_wire_commands.md R103). -/
structure Measurement where
  co2 : FloatWord
  temperature : FloatWord
  humidity : FloatWord
  deriving DecidableEq, Repr

/-- Measurement decode (45_wire_commands.md R103): three floats at offsets 0, 6 and 12 of the 18 bytes. -/
def decodeMeasurement (bs : List Byte) : DriverCall Measurement :=
  driverThen (decodeFloats (pseudoMeasurement bs)) fun fs => fun d =>
    match fs with
    | [co2, temperature, humidity] => (.ok ⟨co2, temperature, humidity⟩, d)
    | _ => (.noMeaning, d)

/-- Read measurement (45_wire_commands.md R94, R103; 18 bytes by 90_conflicts.md C1). -/
def readMeasurementCall : DriverCall Measurement :=
  driverThen (readCommand .readMeasurement 18) decodeMeasurement

/-- How a datum becomes the data-ready flag under each setting of `ready_rule` (92_eei_decisions.md D23). -/
def readyBy (rule : ReadyRule) (v : Half) : Bool :=
  match rule with
  | .lowByte => lo8 v != 0#8
  | .word => v != 0#16

/-- Check and unpack one group (42_frame_codec_decode.md R81) and use its datum. -/
def decodeGroupBytes (bs : List Byte) : DriverCall Half :=
  match bs with
  | [d0, d1, c] =>
    driverThen (driverPerform (.decGroup d0 d1 c)) fun _ => driverThen driverOutcome fun _ => driverUse State.data
  | _ => fun d => (.noMeaning, d)

/-- Get data-ready flag (45_wire_commands.md R93, R104), for a setting of `ready_rule`. -/
def dataReadyCall (rule : ReadyRule) : DriverCall Bool :=
  driverThen (readCommand .getDataReady 3) fun bs =>
    driverThen (decodeGroupBytes bs) fun v => fun d => (.ok (readyBy rule v), d)

/-- Get data-ready flag under the implementation's own setting (92_eei_decisions.md D23). -/
def dataReady : DriverCall Bool := dataReadyCall Config.readyRule

/-- Get firmware version (45_wire_commands.md R100, R105), for a setting of `fw_check`: with the check the group goes through
`DEC_GROUP`; without it the first two bytes are used as they are and the block is not involved. -/
def firmwareCall (fwCheck : Bool) : DriverCall Half :=
  driverThen (readCommand .getFirmwareVersion 3) fun bs =>
    if fwCheck then decodeGroupBytes bs
    else
      match bs with
      | b0 :: b1 :: _ => fun d => (.ok (be16 b0 b1), d)
      | _ => fun d => (.noMeaning, d)

/-- Get firmware version under the implementation's own setting (92_eei_decisions.md D24). -/
def firmwareVersion : DriverCall Half := firmwareCall Config.fwCheck

/-- Temperature offset (45_wire_commands.md R106): times 100, truncated toward zero to 16 bits; a free value where the input does not fit
(93_implementation_defined.md U6; log entry 10). -/
def temperatureParameter (x : Rat) : Half :=
  if 0 ≤ x ∧ x * 100 < 65536 then BitVec.ofNat 16 (x * 100).floor.toNat else Config.temperatureUnstated x

/-- Set temperature offset (45_wire_commands.md R97, R106). -/
def setTemperatureOffset (x : Rat) : DriverCall Unit := writeCommand (withParameter .setTempOffset (temperatureParameter x))

/-- Open (45_wire_commands.md R108): store the address and probe with Get firmware version; a failed probe is fatal to Open
(90_conflicts.md C3; log entry 9). -/
def openSession (fwCheck : Bool) (addr : BitVec 7) : DriverCall Half := fun d =>
  match d.session with
  | .uninitialized =>
    match firmwareCall fwCheck { d with session := .opened addr } with
    | (.ok v, d') => (.ok v, d')
    | (.failed _, d') => (.failed .transportError, { d' with session := .uninitialized })
    | (.noMeaning, d') => (.noMeaning, { d' with session := .uninitialized })
  | .opened _ => (.noMeaning, d)
  | .closed => (.failed .invalidState, d)

/-- Close (45_wire_commands.md R108): attempt Stop continuous mode, report its outcome, and end Closed whatever it was. -/
def closeSession : DriverCall (DriverResult Unit) := fun d =>
  match d.session with
  | .opened _ =>
    let (r, d') := writeCommand .stopContinuous d
    (.ok r, { d' with session := .closed })
  | .closed => (.failed .invalidState, d)
  | .uninitialized => (.noMeaning, d)

end Sys2Proof.Machine
end

