-- ==== Sys2Proof/Machine/FloatReading.lean ====
section
/-!
DEFINITION. How a consumer reads a float word as a number (30_encoding.md R51, 42_frame_codec_decode.md R85, both marked general knowledge
by the spec; log entry 12). The block itself treats the word as 32 opaque bits (R84, R86) and uses nothing of this file.
-/
namespace Sys2Proof.Machine

/-- Bit 31, the sign (30_encoding.md R51). -/
def floatSign (f : FloatWord) : Bool := f.getLsbD 31
/-- Bits 30:23, the biased exponent (30_encoding.md R51). -/
def floatExponent (f : FloatWord) : BitVec 8 := f.extractLsb' 23 8
/-- Bits 22:0, the fraction (30_encoding.md R51). -/
def floatFraction (f : FloatWord) : BitVec 23 := f.extractLsb' 0 23

/-- The value of a float word: `finite` is `(-1)^neg * mant * 2^exp`, exactly (42_frame_codec_decode.md R85). -/
inductive FloatValue
  | zero (neg : Bool)
  | finite (neg : Bool) (mant : Nat) (exp : Int)
  | infinity (neg : Bool)
  | nan
  deriving DecidableEq, Repr

/-- The standard reading, case by case (42_frame_codec_decode.md R85). -/
def readFloat (f : FloatWord) : FloatValue :=
  let e := (floatExponent f).toNat
  let m := (floatFraction f).toNat
  if e = 0 then
    if m = 0 then .zero (floatSign f) else .finite (floatSign f) m (-149)
  else if e = 255 then
    if m = 0 then .infinity (floatSign f) else .nan
  else .finite (floatSign f) (2 ^ 23 + m) ((e : Int) - 150)

end Sys2Proof.Machine
end

