-- ==== Sys2Proof/WellFormed.lean ====
section
/-!
DEFINITION. Well-formed instructions. An operation of the block takes operands of any value (30_encoding.md R44, 41 R78), so it is
always well formed; a long command frame is well formed when its checksum byte covers its parameter bytes (30_encoding.md R48), as in
every frame the block builds.
-/
namespace Sys2Proof

/-- 30_encoding.md R48: the checksum byte covers exactly the two parameter bytes. -/
def longFrameOk (par : Half) (crc : Byte) : Bool := Machine.crc8 (Machine.bytesOf par) == crc

def Instr.wf : Instr → Bool
  | .crcInit => true
  | .crcByte _ => true
  | .encCmd _ => true
  | .encCmdP _ _ => true
  | .decGroup _ _ _ => true
  | .decFloat _ _ _ _ _ _ => true
  | .startContinuous par crc => longFrameOk par crc
  | .stopContinuous => true
  | .setInterval par crc => longFrameOk par crc
  | .getDataReady => true
  | .readMeasurement => true
  | .setAsc par crc => longFrameOk par crc
  | .setFrc par crc => longFrameOk par crc
  | .setTempOffset par crc => longFrameOk par crc
  | .setAltitude par crc => longFrameOk par crc
  | .softReset => true
  | .getFirmwareVersion => true

end Sys2Proof
end

