-- ==== Sys2Proof/Safety.lean ====
section
/-!
DEFINITION. What a good state of the block is: each valid bit and the length agree with what the latches hold (00_scope.md R9, 10_state.md
R13 to R15), a long frame carries the checksum of its parameter (41_frame_codec_encode.md R76), and `err` is not the reserved code (R16).
-/
namespace Sys2Proof.Machine

/-- 10_state.md R13: `txlen` is 0, 2 or 5. -/
abbrev State.LengthOk (s : State) : Prop := s.txlen = 0#3 ∨ s.txlen = 2#3 ∨ s.txlen = 5#3

/-- 10_state.md R13: exactly the bytes below `txlen` hold values. -/
abbrev State.FrameOk (s : State) : Prop := ∀ i : Fin 5, s.txbuf[i].isSome = decide (i.val < s.txlen.toNat)

/-- 41_frame_codec_encode.md R76 (c): in a long frame the last byte is the checksum of the two before it. -/
abbrev State.ChecksumOk (s : State) : Prop :=
  s.txlen = 5#3 → s.txbuf[4] = (s.txbuf[2]).bind fun a => (s.txbuf[3]).map fun b => crc8 [a, b]

/-- 10_state.md R14, R15: a valid bit is 1 exactly when its latch holds a value. -/
abbrev State.ValidOk (s : State) : Prop := s.dataValid = s.data.isSome ∧ s.fwordValid = s.fword.isSome

/-- 10_state.md R16: the reserved code is never produced. -/
abbrev State.ErrOk (s : State) : Prop := s.err ≠ errReserved

/-- The invariant of the block. -/
abbrev State.Inv (s : State) : Prop := s.LengthOk ∧ s.FrameOk ∧ s.ChecksumOk ∧ s.ValidOk ∧ s.ErrOk

/-- The six operations of the block, against the eleven sensor commands (30_encoding.md R43, R57). -/
def isOperation : Instr → Bool
  | .crcInit => true
  | .crcByte _ => true
  | .encCmd _ => true
  | .encCmdP _ _ => true
  | .decGroup _ _ _ => true
  | .decFloat _ _ _ _ _ _ => true
  | .startContinuous _ _ => false
  | .stopContinuous => false
  | .setInterval _ _ => false
  | .getDataReady => false
  | .readMeasurement => false
  | .setAsc _ _ => false
  | .setFrc _ _ => false
  | .setTempOffset _ _ => false
  | .setAltitude _ _ => false
  | .softReset => false
  | .getFirmwareVersion => false

/-- The registers an instruction may write besides `err` (10_state.md R11). -/
inductive WriteSet
  | accumulator
  | frame
  | datum
  | float
  deriving DecidableEq, Repr

/-- Which registers each instruction writes (10_state.md R11, 20_memory.md R35). -/
def writeSet : Instr → WriteSet
  | .crcInit => .accumulator
  | .crcByte _ => .accumulator
  | .encCmd _ => .frame
  | .encCmdP _ _ => .frame
  | .decGroup _ _ _ => .datum
  | .decFloat _ _ _ _ _ _ => .float
  | .startContinuous _ _ => .frame
  | .stopContinuous => .frame
  | .setInterval _ _ => .frame
  | .getDataReady => .frame
  | .readMeasurement => .frame
  | .setAsc _ _ => .frame
  | .setFrc _ _ => .frame
  | .setTempOffset _ _ => .frame
  | .setAltitude _ _ => .frame
  | .softReset => .frame
  | .getFirmwareVersion => .frame

/-- The word selects an operation that writes the registers of `r` (an illegal word writes `err` only, 60_exceptions.md R111). -/
def wordWrites (r : WriteSet) (w : OpWord) : Bool :=
  match decodeOpw w with
  | .ok i => writeSet i == r
  | .error _ => false

/-- The byte a word feeds to the accumulator, if it is a `CRC_BYTE` word (40_checksum_engine.md R63). -/
def byteFed (w : OpWord) : Option Byte :=
  match decodeOpw w with
  | .ok (.crcByte b) => some b
  | _ => none

/-- The bytes a list of words feeds to the accumulator, in order (40_checksum_engine.md R64). -/
def bytesFed (ws : List OpWord) : List Byte := ws.filterMap byteFed

/-- The decode operations that find a bad group (60_exceptions.md R110). -/
def checkFails (i : Instr) : Prop :=
  (∃ d0 d1 c, i = .decGroup d0 d1 c ∧ crc8 [d0, d1] ≠ c) ∨
  ∃ a0 a1 ca b0 b1 cb, i = .decFloat a0 a1 ca b0 b1 cb ∧ (crc8 [a0, a1] ≠ ca ∨ crc8 [b0, b1] ≠ cb)

/-- The host event is within what the host must do (70_reset_and_hazards.md R126, R129, R134): it uses a port only while it carries a
value, it is the one host, and a command it asks for is one of the eleven. -/
def hostObeys (s : State) : HostEvent → Bool
  | .present (.opw _) => true
  | .present w => (decode w).toBool
  | .reset _ => true
  | .read p => (portValue s p).isSome
  | .secondHost _ => false

end Sys2Proof.Machine
end

