-- ==== Sys2Proof/Certificates/Slice0/Obligations.lean ====
section
/-!
DEFINITION. The statements for the provers, by the numbered rules of the spec. Each docstring names the rule it formalises.
-/

open Sys2Proof Sys2Proof.Machine

/-! ### Encodings -/

/-- Decoding an encoded instruction gives it back, for every instruction and every operand value: no operand bit is dropped
(30_encoding.md R42 to R45, R47, R48). -/
def Obligations.DecodeOfEncodeIsTheInstruction : Prop :=
  ∀ i : Instr, decode (encode i) = .ok i

/-- Each word has one meaning: a word that decodes is the encoding of what it decodes to (30_encoding.md R45: no two words mean the same
operation). -/
def Obligations.EncodeOfDecodedIsTheWord : Prop :=
  ∀ (w : Word) (i : Instr), decode w = .ok i → encode i = w

/-- 30_encoding.md R45: a word selects the operation of a row exactly when `(w and mask) == match`, so the rows exclude each other; a
word that matches no row, one of the six select codes with a pad bit set among them, selects no operation and is treated as illegal. -/
def Obligations.MaskAndMatchSelectTheOperation : Prop :=
  (∀ w, decodeOpw w = .ok .crcInit ↔ w &&& 0xFFFFFFFFFFFFFF#56 = 0x01000000000000#56) ∧
  (∀ w, (∃ b, decodeOpw w = .ok (.crcByte b)) ↔ w &&& 0xFF00FFFFFFFFFF#56 = 0x02000000000000#56) ∧
  (∀ w, (∃ opc, decodeOpw w = .ok (.encCmd opc)) ↔ w &&& 0xFF0000FFFFFFFF#56 = 0x10000000000000#56) ∧
  (∀ w, (∃ opc par, decodeOpw w = .ok (.encCmdP opc par)) ↔ w &&& 0xFF00000000FFFF#56 = 0x11000000000000#56) ∧
  (∀ w, (∃ d0 d1 c, decodeOpw w = .ok (.decGroup d0 d1 c)) ↔ w &&& 0xFF000000FFFFFF#56 = 0x20000000000000#56) ∧
  (∀ w, (∃ a0 a1 ca b0 b1 cb, decodeOpw w = .ok (.decFloat a0 a1 ca b0 b1 cb)) ↔
    w &&& 0xFF000000000000#56 = 0x21000000000000#56) ∧
  ∀ w, w &&& 0xFFFFFFFFFFFFFF#56 ≠ 0x01000000000000#56 → w &&& 0xFF00FFFFFFFFFF#56 ≠ 0x02000000000000#56 →
    w &&& 0xFF0000FFFFFFFF#56 ≠ 0x10000000000000#56 → w &&& 0xFF00000000FFFF#56 ≠ 0x11000000000000#56 →
    w &&& 0xFF000000FFFFFF#56 ≠ 0x20000000000000#56 → w &&& 0xFF000000000000#56 ≠ 0x21000000000000#56 →
    ∃ e, decodeOpw w = .error e ∧ ∀ s, acceptOpWord w s = .next { s with err := 0b10#2 }

/-- 30_encoding.md R46 and 60_exceptions.md R111: a word that matches no row of R45 (the 250 other select codes, and the known ones with
a non-zero pad) raises `IllegalOperation`, which sets `err` to `0b10` and changes nothing else; the all-zero and the all-ones word are
such words; every word that decodes is one of the six operations. -/
def Obligations.IllegalWordSetsErrAndNothingElse : Prop :=
  (∀ w s, w &&& 0xFFFFFFFFFFFFFF#56 ≠ 0x01000000000000#56 → w &&& 0xFF00FFFFFFFFFF#56 ≠ 0x02000000000000#56 →
    w &&& 0xFF0000FFFFFFFF#56 ≠ 0x10000000000000#56 → w &&& 0xFF00000000FFFF#56 ≠ 0x11000000000000#56 →
    w &&& 0xFF000000FFFFFF#56 ≠ 0x20000000000000#56 → w &&& 0xFF000000000000#56 ≠ 0x21000000000000#56 →
    acceptOpWord w s = .next { s with err := 0b10#2 }) ∧
  (∀ w s, (sel w).toNat = 0 ∨ (3 ≤ (sel w).toNat ∧ (sel w).toNat ≤ 0x0F) ∨
      (0x12 ≤ (sel w).toNat ∧ (sel w).toNat ≤ 0x1F) ∨ 0x22 ≤ (sel w).toNat →
    acceptOpWord w s = .next { s with err := 0b10#2 }) ∧
  (∀ s, acceptOpWord 0x00000000000000#56 s = .next { s with err := 0b10#2 }) ∧
  (∀ s, acceptOpWord 0xFFFFFFFFFFFFFF#56 s = .next { s with err := 0b10#2 }) ∧
  ∀ w i, decodeOpw w = .ok i → isOperation i = true

/-- A few words written out from the spec decode to the operation or command they stand for (30_encoding.md section 6, the six lines;
95_test_vectors.md V4, V9; 45_wire_commands.md, the frames). A sanity statement. -/
def Obligations.SpecWordsDecodeAsWritten : Prop :=
  decodeTableWord 56 0x01000000000000 = some .crcInit ∧
  decodeTableWord 56 0x02BE0000000000 = some (.crcByte 0xBE#8) ∧
  decodeTableWord 56 0x10010400000000 = some (.encCmd 0x0104#16) ∧
  decodeTableWord 56 0x11460007080000 = some (.encCmdP 0x4600#16 0x0708#16) ∧
  decodeTableWord 56 0x200001B0000000 = some (.decGroup 0x00#8 0x01#8 0xB0#8) ∧
  decodeTableWord 56 0x2143DBCB851FB8 = some (.decFloat 0x43#8 0xDB#8 0xCB#8 0x85#8 0x1F#8 0xB8#8) ∧
  decodeTableWord 56 0x02BE00000000FF = none ∧
  decodeTableWord 56 0x22000081000000 = none ∧
  decodeTableWord 40 0x46000002E3 = some (.setInterval 0x0002#16 0xE3#8) ∧
  decodeTableWord 16 0xD304 = some .softReset

/-- The same word as a 56-, 40- or 16-bit value and as its bytes in wire order decode alike, and the bytes determine the word
(20_memory.md R27, 30_encoding.md R42, R53). -/
def Obligations.BytesInWireOrderDecodeLikeTheWord : Prop :=
  (∀ w : Word, wordOfBytes (bytesOfWord w) = some w) ∧ ∀ w : Word, decodeBytes (bytesOfWord w) = decode w

/-! ### The step -/

/-- When the next thing the host does is to present a word that decodes to `i`, a step is `exec` of `i` on the state with that event
taken off (00_scope.md R10, 20_memory.md R36). -/
def Obligations.StepRunsTheDecodedInstruction : Prop :=
  ∀ (s : State) (w : Word) (rest : List HostEvent) (i : Instr),
    s.pending = .present w :: rest → decode w = .ok i → step s = exec i { s with pending := rest }

/-- A word placed as the next one, by its width and its bits, is run by the very next step, which leaves what the host does after it as
it was (log entry 1). -/
def Obligations.PlacedWordRunsNext : Prop :=
  ∀ (s : State) (nbits w : Nat) (i : Instr), decodeTableWord nbits w = some i → step (s.withFetchWord nbits w) = exec i s

/-- With nothing presented the block does nothing (20_memory.md R39 (c), 70_reset_and_hazards.md R133). That a step is defined there at
all is the model's choice (log entry 4). -/
def Obligations.NothingPendingNothingDone : Prop :=
  ∀ s : State, s.pending = [] → step s = .next s

/-- A second host's word has no meaning (20_memory.md R41, 60_exceptions.md R121, 93_implementation_defined.md U1; log entry 8). -/
def Obligations.SecondHostIsRefused : Prop :=
  ∀ (s : State) (w : Word) (rest : List HostEvent), s.pending = .secondHost w :: rest → step s = .refused .secondHost

/-- A wire frame of no known command is no request and is refused by name; a frame of a known opcode never is (45_wire_commands.md R89;
log entry 7). -/
def Obligations.UnknownCommandFrameIsRefused : Prop :=
  (∀ (w : BitVec 16) s, w ∉ [0x0104#16, 0x0202#16, 0x0300#16, 0xD304#16, 0xD100#16] →
    acceptWord (.wire2 w) s = .refused .unknownCommand) ∧
  (∀ (w : BitVec 40) s, w.extractLsb' 24 16 ∉ [0x0010#16, 0x4600#16, 0x5306#16, 0x5204#16, 0x5403#16, 0x5102#16] →
    acceptWord (.wire5 w) s = .refused .unknownCommand) ∧
  (∀ w ∈ [0x0104#16, 0x0202#16, 0x0300#16, 0xD304#16, 0xD100#16], ∀ s, ∃ t, acceptWord (.wire2 w) s = .next t) ∧
  ∀ w : BitVec 40, w.extractLsb' 24 16 ∈ [0x0010#16, 0x4600#16, 0x5306#16, 0x5204#16, 0x5403#16, 0x5102#16] →
    ∀ s, ∃ t, acceptWord (.wire5 w) s = .next t

/-! ### What each instruction does: result, frame and completion in one equation -/

/-- 40_checksum_engine.md R62: the encoding of `CRC_INIT`, and its effect in every state. -/
def Obligations.CrcInitRestartsTheAccumulator : Prop :=
  decodeOpw 0x01000000000000#56 = .ok .crcInit ∧
  (∀ s, exec .crcInit s = .next { s with crc := 0xFF#8, err := 0b00#2 }) ∧
  ∀ s, s.crc = 0xFF#8 → exec .crcInit s = .next { s with err := 0b00#2 }

/-- 40_checksum_engine.md R63: the encoding of `CRC_BYTE`, its effect in every state, and its corner cases: a byte equal to the register
leaves `0x00`, a zero byte leaves exactly `0x00` and `0xEF` as they are, the two fixed points of `crc_bit`, and the operation is not
idempotent. -/
def Obligations.CrcByteAbsorbsOneByte : Prop :=
  (∀ b, decodeOpw (opWordOf 0x02#8 b 0#8 0#8 0#8 0#8 0#8) = .ok (.crcByte b)) ∧
  (∀ b s, exec (.crcByte b) s = .next { s with crc := crcByte s.crc b, err := 0b00#2 }) ∧
  (∀ s, exec (.crcByte s.crc) s = .next { s with crc := 0x00#8, err := 0b00#2 }) ∧
  (∀ s, (exec (.crcByte 0x00#8) s = .next { s with err := 0b00#2 }) ↔ s.crc = 0x00#8 ∨ s.crc = 0xEF#8) ∧
  (∀ v : Byte, crcBit v = v ↔ v = 0x00#8 ∨ v = 0xEF#8) ∧
  (∃ (b : Byte) (s t u : State), exec (.crcByte b) s = .next t ∧ exec (.crcByte b) t = .next u ∧ u ≠ t) ∧
  (∀ s, s.crc = 0xFF#8 → exec (.crcByte 0xBE#8) s = .next { s with crc := 0x0C#8, err := 0b00#2 }) ∧
  ∀ s, s.crc = 0x0C#8 → exec (.crcByte 0xEF#8) s = .next { s with crc := 0x92#8, err := 0b00#2 }

/-- 41_frame_codec_encode.md R74: the encoding of `ENC_CMD` and its effect in every state, for every opcode. -/
def Obligations.EncCmdBuildsTheShortFrame : Prop :=
  (∀ opc, decodeOpw (opWordOf 0x10#8 (opc.extractLsb' 8 8) (opc.extractLsb' 0 8) 0#8 0#8 0#8 0#8) = .ok (.encCmd opc)) ∧
  (∀ opc s, exec (.encCmd opc) s = .next
    { s with
      txbuf := #v[some (opc.extractLsb' 8 8), some (opc.extractLsb' 0 8), none, none, none]
      txlen := 2#3
      err := 0b00#2 }) ∧
  ∀ s, exec (.encCmd 0x0104#16) s = .next
    { s with txbuf := #v[some 0x01#8, some 0x04#8, none, none, none], txlen := 2#3, err := 0b00#2 }

/-- 41_frame_codec_encode.md R75: the encoding of `ENC_CMD_P` and its effect in every state, for every opcode and parameter; parameter
0 carries `0x81`, parameter `0xFFFF` carries `0xAC`, and the checksum does not depend on the opcode. -/
def Obligations.EncCmdPBuildsTheLongFrame : Prop :=
  (∀ opc par, decodeOpw (opWordOf 0x11#8 (opc.extractLsb' 8 8) (opc.extractLsb' 0 8) (par.extractLsb' 8 8)
    (par.extractLsb' 0 8) 0#8 0#8) = .ok (.encCmdP opc par)) ∧
  (∀ opc par s, exec (.encCmdP opc par) s = .next
    { s with
      txbuf := #v[some (opc.extractLsb' 8 8), some (opc.extractLsb' 0 8), some (par.extractLsb' 8 8), some (par.extractLsb' 0 8),
        some (crc8 [par.extractLsb' 8 8, par.extractLsb' 0 8])]
      txlen := 5#3
      err := 0b00#2 }) ∧
  (∀ opc s, ∃ t, exec (.encCmdP opc 0x0000#16) s = .next t ∧ t.txbuf[4] = some 0x81#8) ∧
  (∀ opc s, ∃ t, exec (.encCmdP opc 0xFFFF#16) s = .next t ∧ t.txbuf[4] = some 0xAC#8) ∧
  ∀ s, exec (.encCmdP 0x0010#16 0x0000#16) s = .next
    { s with txbuf := #v[some 0x00#8, some 0x10#8, some 0x00#8, some 0x00#8, some 0x81#8], txlen := 5#3, err := 0b00#2 }

/-- 42_frame_codec_decode.md R81: the encoding of `DEC_GROUP` and its effect in every state, for a group that passes and one that does
not; the all-zero and all-ones groups fail. The last clause is the model's reading, DEDUCED (log entry 14): swapping two distinct data
bytes goes unseen exactly when they differ by `0xEF`; R81 does not say that the bytes are distinct. -/
def Obligations.DecGroupChecksAndUnpacks : Prop :=
  (∀ d0 d1 c, decodeOpw (opWordOf 0x20#8 d0 d1 c 0#8 0#8 0#8) = .ok (.decGroup d0 d1 c)) ∧
  (∀ d0 d1 c s, crc8 [d0, d1] = c →
    exec (.decGroup d0 d1 c) s = .next { s with data := some (d0 ++ d1), dataValid := true, err := 0b00#2 }) ∧
  (∀ d0 d1 c s, crc8 [d0, d1] ≠ c →
    exec (.decGroup d0 d1 c) s = .next { s with data := none, dataValid := false, err := 0b01#2 }) ∧
  (∀ s, exec (.decGroup 0x00#8 0x01#8 0xB0#8) s = .next { s with data := some 0x0001#16, dataValid := true, err := 0b00#2 }) ∧
  (∀ s, exec (.decGroup 0x00#8 0x01#8 0xB1#8) s = .next { s with data := none, dataValid := false, err := 0b01#2 }) ∧
  crc8 [0x00#8, 0x00#8] ≠ 0x00#8 ∧ crc8 [0xFF#8, 0xFF#8] ≠ 0xFF#8 ∧
  ∀ d0 d1 : Byte, d0 ≠ d1 → (crc8 [d0, d1] = crc8 [d1, d0] ↔ d0 ^^^ d1 = 0xEF#8)

/-- 42_frame_codec_decode.md R82: the encoding of `DEC_FLOAT` and its effect in every state; both groups must pass; exchanged groups pass
too and exchange the halves; every 32-bit pattern is accepted as a word. -/
def Obligations.DecFloatChecksBothGroupsAndAssembles : Prop :=
  (∀ a0 a1 ca b0 b1 cb, decodeOpw (opWordOf 0x21#8 a0 a1 ca b0 b1 cb) = .ok (.decFloat a0 a1 ca b0 b1 cb)) ∧
  (∀ a0 a1 ca b0 b1 cb s, crc8 [a0, a1] = ca → crc8 [b0, b1] = cb →
    exec (.decFloat a0 a1 ca b0 b1 cb) s =
      .next { s with fword := some (a0 ++ a1 ++ b0 ++ b1), fwordValid := true, err := 0b00#2 }) ∧
  (∀ a0 a1 ca b0 b1 cb s, crc8 [a0, a1] ≠ ca ∨ crc8 [b0, b1] ≠ cb →
    exec (.decFloat a0 a1 ca b0 b1 cb) s = .next { s with fword := none, fwordValid := false, err := 0b01#2 }) ∧
  (∀ a0 a1 ca b0 b1 cb s, crc8 [a0, a1] = ca → crc8 [b0, b1] = cb →
    exec (.decFloat b0 b1 cb a0 a1 ca) s =
      .next { s with fword := some (b0 ++ b1 ++ a0 ++ a1), fwordValid := true, err := 0b00#2 }) ∧
  (∀ (f : FloatWord) s, ∃ ca cb,
    exec (.decFloat (f.extractLsb' 24 8) (f.extractLsb' 16 8) ca (f.extractLsb' 8 8) (f.extractLsb' 0 8) cb) s =
      .next { s with fword := some f, fwordValid := true, err := 0b00#2 }) ∧
  (∀ s, exec (.decFloat 0x43#8 0xDB#8 0xCB#8 0x85#8 0x1F#8 0xB8#8) s =
    .next { s with fword := some 0x43DB851F#32, fwordValid := true, err := 0b00#2 }) ∧
  ∀ s, exec (.decFloat 0x43#8 0xDB#8 0xCB#8 0x85#8 0x1F#8 0xB9#8) s =
    .next { s with fword := none, fwordValid := false, err := 0b01#2 }

/-- The five commands without a parameter, each by the `ENC_CMD` the spec says the host issues: two opcode bytes and nothing else
(45_wire_commands.md R91, R93, R94, R99, R100; the reading of these rows as instructions is the model's, log entry 5). -/
def Obligations.ShortCommandsBuildTheirFrames : Prop :=
  (∀ s, exec .stopContinuous s = .next
    { s with txbuf := #v[some 0x01#8, some 0x04#8, none, none, none], txlen := 2#3, err := 0b00#2 }) ∧
  (∀ s, exec .getDataReady s = .next
    { s with txbuf := #v[some 0x02#8, some 0x02#8, none, none, none], txlen := 2#3, err := 0b00#2 }) ∧
  (∀ s, exec .readMeasurement s = .next
    { s with txbuf := #v[some 0x03#8, some 0x00#8, none, none, none], txlen := 2#3, err := 0b00#2 }) ∧
  (∀ s, exec .softReset s = .next
    { s with txbuf := #v[some 0xD3#8, some 0x04#8, none, none, none], txlen := 2#3, err := 0b00#2 }) ∧
  ∀ s, exec .getFirmwareVersion s = .next
    { s with txbuf := #v[some 0xD1#8, some 0x00#8, none, none, none], txlen := 2#3, err := 0b00#2 }

/-- The six commands with a parameter, each by the `ENC_CMD_P` the spec says the host issues, whatever the checksum byte of the frame
that asks for it (45_wire_commands.md R90, R92, R95 to R98; log entries 5 and 6). -/
def Obligations.LongCommandsBuildTheirFrames : Prop :=
  ∀ (par : Half) (crc : Byte) (s : State),
    (∀ command opc, (command, opc) ∈
      [(Instr.startContinuous par crc, 0x0010#16), (Instr.setInterval par crc, 0x4600#16), (Instr.setAsc par crc, 0x5306#16),
       (Instr.setFrc par crc, 0x5204#16), (Instr.setTempOffset par crc, 0x5403#16), (Instr.setAltitude par crc, 0x5102#16)] →
      exec command s = .next
        { s with
          txbuf := #v[some (opc.extractLsb' 8 8), some (opc.extractLsb' 0 8), some (par.extractLsb' 8 8), some (par.extractLsb' 0 8),
            some (crc8 [par.extractLsb' 8 8, par.extractLsb' 0 8])]
          txlen := 5#3
          err := 0b00#2 })

/-- A well-formed command latches exactly the bytes of its own word: the frame of the table's row is the frame that is sent
(30_encoding.md R47, R48, R57; log entry 5). -/
def Obligations.WellFormedCommandLatchesItsOwnWord : Prop :=
  ∀ (i : Instr) (s : State), i.wf = true → isOperation i = false →
    ∃ t, exec i s = .next t ∧ txFrame t = bytesOfWord (encode i)

/-! ### The outcome code and the errors -/

/-- `err` tells the outcome of the word just presented and nothing older: `0b10` for a word that selects nothing, `0b01` for a decode
operation with a bad group, `0b00` otherwise; a bad group empties that decode's own latch and changes nothing else, a word that selects
nothing changes nothing else at all (10_state.md R16, 60_exceptions.md R109 to R111, R115, R117). -/
def Obligations.ErrTellsTheOutcomeOfThisWord : Prop :=
  ∀ (w : OpWord) (s : State), ∃ t, acceptOpWord w s = .next t ∧
    (∀ e, decodeOpw w = .error e → t = { s with err := 0b10#2 }) ∧
    ∀ i, decodeOpw w = .ok i → (t.err = 0b01#2 ↔ checkFails i) ∧ (t.err = 0b00#2 ↔ ¬ checkFails i) ∧
      (checkFails i →
        (writeSet i = .datum ∧ t = { s with data := none, dataValid := false, err := 0b01#2 }) ∨
        (writeSet i = .float ∧ t = { s with fword := none, fwordValid := false, err := 0b01#2 }))

/-- 60_exceptions.md R110: exactly when `ChecksumMismatch` is raised, and all it does. -/
def Obligations.ChecksumMismatchEmptiesItsOwnLatch : Prop :=
  (∀ (i : Instr) (s : State), checkFails i →
    exec i s = .next
      { s with
        err := 0b01#2
        data := if writeSet i = .datum then none else s.data
        dataValid := if writeSet i = .datum then false else s.dataValid
        fword := if writeSet i = .float then none else s.fword
        fwordValid := if writeSet i = .float then false else s.fwordValid } ∧
      (writeSet i = .datum ∨ writeSet i = .float)) ∧
  ∀ (i : Instr) (s : State), ¬ checkFails i → ∃ t, exec i s = .next t ∧ t.err = 0b00#2

/-- 10_state.md R17: the fields of `STATUS` in every state, and its value after reset; using it changes nothing. -/
def Obligations.StatusShowsEveryFlag : Prop :=
  (∀ s : State, (status s).extractLsb' 0 2 = s.err ∧ (status s).getLsbD 2 = s.dataValid ∧ (status s).getLsbD 3 = s.fwordValid ∧
    (status s).extractLsb' 4 3 = s.txlen ∧ (status s).getLsbD 7 = false) ∧
  (∀ s : State, s.Inv → (status s).extractLsb' 4 3 ∈ [0b000#3, 0b010#3, 0b101#3]) ∧
  status State.reset = 0x00#8 ∧
  ∀ s : State, usePort .status s = .next s

/-- Every instruction completes in every state, and leaves what the host does next alone (70_reset_and_hazards.md R131: "the only
liveness fact a model may assume is that every operation completes"). -/
def Obligations.EveryInstructionCompletes : Prop :=
  ∀ (i : Instr) (s : State), ∃ t, exec i s = .next t ∧ t.pending = s.pending

/-- No list of operation words, legal or not, ends in a fault or a refusal: an error is an outcome, and the run goes on
(70_reset_and_hazards.md R133). -/
def Obligations.EveryRunOfWordsCompletes : Prop :=
  ∀ (ws : List OpWord) (s : State), ∃ t, acceptAll ws s = .next t ∧ t.pending = s.pending

/-! ### Reset and invariants -/

/-- The state after reset, register by register (10_state.md R24, the whole table). -/
def Obligations.ResetValuesAreTheTable : Prop :=
  State.reset.crc = 0xFF#8 ∧ State.reset.txlen = 0#3 ∧ (∀ i : Fin 5, State.reset.txbuf[i] = none) ∧ State.reset.data = none ∧
  State.reset.dataValid = false ∧ State.reset.fword = none ∧ State.reset.fwordValid = false ∧ State.reset.err = 0b00#2 ∧
  status State.reset = 0x00#8

/-- The reset event, alone or with an operation presented at the same time, leaves exactly the reset values, from every state
(70_reset_and_hazards.md R122); that the host's list goes on is the model's (log entry 3). -/
def Obligations.ResetEventOverridesTheOperation : Prop :=
  ∀ (s : State) (op : Option OpWord) (rest : List HostEvent), s.pending = .reset op :: rest →
    step s = .next { State.reset with pending := rest }

/-- 70_reset_and_hazards.md R123: reset and `CRC_INIT` leave the same accumulator and differ in everything else (the one
leaves the latches, the other empties them); from reset a checksum needs no `CRC_INIT`. -/
def Obligations.ResetAndCrcInitAgreeOnTheAccumulator : Prop :=
  ∀ s : State, ∃ t, exec .crcInit s = .next t ∧ t.crc = (resetBlock s).crc ∧
    t.txbuf = s.txbuf ∧ t.txlen = s.txlen ∧ t.data = s.data ∧ t.dataValid = s.dataValid ∧ t.fword = s.fword ∧
    t.fwordValid = s.fwordValid ∧
    (∀ i : Fin 5, (resetBlock s).txbuf[i] = none) ∧ (resetBlock s).txlen = 0#3 ∧ (resetBlock s).data = none ∧
    (resetBlock s).dataValid = false ∧ (resetBlock s).fword = none ∧ (resetBlock s).fwordValid = false ∧
    ∀ bs, ∃ u v, execAll (bs.map .crcByte) (resetBlock s) = .next u ∧ execAll (.crcInit :: bs.map .crcByte) s = .next v ∧
      u.crc = crc8 bs ∧ v.crc = crc8 bs

/-- The reset state meets the invariant. -/
def Obligations.ResetMeetsTheInvariant : Prop := State.reset.Inv

/-- Every step keeps the invariant: the length is 0, 2 or 5 and says which bytes hold values, a long frame carries the checksum of its
parameter, each valid bit agrees with its latch, and `err` is never `0b11` (10_state.md R13 to R16, 41_frame_codec_encode.md R76). -/
def Obligations.EveryStepKeepsTheInvariant : Prop :=
  ∀ s t : State, s.Inv → step s = .next t → t.Inv

/-! ### Who touches what -/

/-- Over any run of operation words each register changes only by its own operations (10_state.md R11; so a frame waits for the next
encode, 41 R79, 70 R128, and the valid bits are the durable record of decodes, 70 R127). -/
def Obligations.RegistersSurviveOtherOperations : Prop :=
  ∀ (ws : List OpWord) (s : State), ∃ t, acceptAll ws s = .next t ∧
    ((∀ w ∈ ws, wordWrites .accumulator w = false) → t.crc = s.crc) ∧
    ((∀ w ∈ ws, wordWrites .frame w = false) → t.txbuf = s.txbuf ∧ t.txlen = s.txlen) ∧
    ((∀ w ∈ ws, wordWrites .datum w = false) → t.data = s.data ∧ t.dataValid = s.dataValid) ∧
    ((∀ w ∈ ws, wordWrites .float w = false) → t.fword = s.fword ∧ t.fwordValid = s.fwordValid)

/-- The codec operations never read or write the accumulator: changing it before or after one is the same (10_state.md R11, R22). -/
def Obligations.CodecIgnoresTheAccumulator : Prop :=
  ∀ (i : Instr) (s : State) (c : Byte), writeSet i ≠ .accumulator →
    ∃ t, exec i s = .next t ∧ exec i { s with crc := c } = .next { t with crc := c } ∧ t.crc = s.crc

/-- What an operation other than `CRC_BYTE` leaves in the registers it writes depends on the word alone, whatever the state
(20_memory.md R35, the column "reads state"). -/
def Obligations.ResultsDependOnTheWordAlone : Prop :=
  ∀ (i : Instr) (s s' : State), (∀ b, i ≠ .crcByte b) → ∃ t t', exec i s = .next t ∧ exec i s' = .next t' ∧ t.err = t'.err ∧
    (writeSet i = .accumulator → t.crc = t'.crc) ∧
    (writeSet i = .frame → t.txbuf = t'.txbuf ∧ t.txlen = t'.txlen) ∧
    (writeSet i = .datum → t.data = t'.data ∧ t.dataValid = t'.dataValid) ∧
    (writeSet i = .float → t.fword = t'.fword ∧ t.fwordValid = t'.fwordValid)

/-- 20_memory.md R37: reading an output changes nothing; every word but a `CRC_BYTE` word performed twice leaves what once leaves; and a
`CRC_BYTE` is not so. -/
def Obligations.ReadsHaveNoEffectAndWordsAreIdempotent : Prop :=
  (∀ (s : State) (p : Port), (portValue s p).isSome → usePort p s = .next s) ∧
  (∀ (w : OpWord) (s : State), (∀ b, decodeOpw w ≠ .ok (.crcByte b)) →
    ∃ t, acceptOpWord w s = .next t ∧ acceptOpWord w t = .next t) ∧
  ∃ (b : Byte) (s t u : State), exec (.crcByte b) s = .next t ∧ exec (.crcByte b) t = .next u ∧ u ≠ t

/-- 70_reset_and_hazards.md R126: in every state that meets the invariant `data` may be used only when `data_valid` is 1, `fword` only
when `fword_valid` is 1, `txbuf[i]` only for `i < txlen`; any other use is the host's fault; none may be used after reset, nor the
raising operation's latch after a `ChecksumMismatch`. -/
def Obligations.EmptyLatchFaultsTheHost : Prop :=
  (∀ s : State, s.Inv →
    (usePort .data s = if s.dataValid then .next s else .fault (.emptyLatch .data)) ∧
    (usePort .fword s = if s.fwordValid then .next s else .fault (.emptyLatch .fword)) ∧
    ∀ i : Fin 5, usePort (.txbuf i) s = if i.val < s.txlen.toNat then .next s else .fault (.emptyLatch (.txbuf i))) ∧
  usePort .data State.reset = .fault (.emptyLatch .data) ∧ usePort .fword State.reset = .fault (.emptyLatch .fword) ∧
  (∀ i : Fin 5, usePort (.txbuf i) State.reset = .fault (.emptyLatch (.txbuf i))) ∧
  ∀ (i : Instr) (s : State), checkFails i → ∃ t, exec i s = .next t ∧
    (writeSet i = .datum → usePort .data t = .fault (.emptyLatch .data)) ∧
    (writeSet i = .float → usePort .fword t = .fault (.emptyLatch .fword))

/-- The packed 40-bit port carries a value exactly when a long frame is latched, and then it is the five bytes in order, index 0 most
significant (10_state.md R25; that the port carries nothing over a shorter frame is the model's, log entry 11). -/
def Obligations.PackedPortNeedsALongFrame : Prop :=
  ∀ s : State, s.Inv →
    ((portValue s .txbufAll).isSome ↔ s.txlen = 5#3) ∧
    ∀ v, portValue s .txbufAll = some v →
      ∀ i : Fin 5, s.txbuf[i] = some ((v : BitVec 40).extractLsb' (8 * (4 - i.val)) 8)

/-- A host's read is a step that uses the port and changes no register (20_memory.md R37, 70_reset_and_hazards.md R134; that a read is an
event of its own is the model's, log entries 1 and 16). -/
def Obligations.ReadEventUsesThePort : Prop :=
  ∀ (s : State) (p : Port) (rest : List HostEvent), s.pending = .read p :: rest → step s = usePort p { s with pending := rest }

/-! ### Runs of the machine -/

/-- Presenting a finite list of operation words and stepping once for each is applying them in list order, each completely before the
next; what the host does after them is left to come (00_scope.md R10, 20_memory.md R39, 70_reset_and_hazards.md R133). -/
def Obligations.RunAppliesTheWordsInOrder : Prop :=
  ∀ (ws : List OpWord) (s : State) (rest : List HostEvent), ∃ t,
    acceptAll ws { s with pending := rest } = .next t ∧ t.pending = rest ∧
    Host.Core.run Sys2Proof.core ws.length { s with pending := presentations ws ++ rest } = .next t

/-- 40_checksum_engine.md R64: after `CRC_INIT`, or after reset, and any words that hold no further `CRC_INIT`, codec operations and
illegal words among them, the host reads `crc8` of the bytes fed so far on the `crc` output. -/
def Obligations.AccumulatorHoldsTheChecksumOfTheBytesFed : Prop :=
  (∀ (ws : List OpWord) (s : State), (∀ w ∈ ws, decodeOpw w ≠ .ok .crcInit) →
    ∃ t, acceptAll (0x01000000000000#56 :: ws) s = .next t ∧ portValue t .crc = some (crc8 (bytesFed ws))) ∧
  ∀ (ws : List OpWord) (s : State), (∀ w ∈ ws, decodeOpw w ≠ .ok .crcInit) →
    ∃ t, acceptAll ws (resetBlock s) = .next t ∧ portValue t .crc = some (crc8 (bytesFed ws))

/-- Without `CRC_INIT` the bytes continue the previous computation, which the block cannot tell (70_reset_and_hazards.md R125). -/
def Obligations.BytesWithoutCrcInitContinue : Prop :=
  (∀ (bs cs : List Byte) (s : State), cs ≠ [] → ∃ t, execAll (.crcInit :: (bs ++ cs).map .crcByte) s = .next t ∧
    t.crc = crcFrom (crc8 bs) cs ∧ t.err = 0b00#2) ∧
  ∀ s, ∃ t, execAll [.crcInit, .crcByte 0x00#8, .crcByte 0x01#8, .crcByte 0xBE#8, .crcByte 0xEF#8] s = .next t ∧ t.crc = 0x82#8 ∧
    crc8 [0xBE#8, 0xEF#8] = 0x92#8

/-! ### The checksum -/

/-- 40_checksum_engine.md R59: one iteration bit by bit. -/
def Obligations.CrcBitEquations : Prop :=
  (∀ r : Byte, (crcBit r).getLsbD 7 = r.getLsbD 6 ∧ (crcBit r).getLsbD 6 = r.getLsbD 5 ∧
    (crcBit r).getLsbD 5 = (r.getLsbD 4 ^^ r.getLsbD 7) ∧ (crcBit r).getLsbD 4 = (r.getLsbD 3 ^^ r.getLsbD 7) ∧
    (crcBit r).getLsbD 3 = r.getLsbD 2 ∧ (crcBit r).getLsbD 2 = r.getLsbD 1 ∧ (crcBit r).getLsbD 1 = r.getLsbD 0 ∧
    (crcBit r).getLsbD 0 = r.getLsbD 7) ∧
  (∀ r : Byte, crcBit r = if r.getLsbD 7 = true then (r <<< 1) ^^^ 0x31#8 else r <<< 1) ∧
  crcBit 0x41#8 = 0x82#8 ∧ crcBit 0x82#8 = 0x35#8 ∧ crcBit 0x00#8 = 0x00#8 ∧ crcBit 0x80#8 = 0x31#8 ∧ crcBit 0xFF#8 = 0xCF#8

/-- The checksums the spec prints (95_test_vectors.md V2, rows of each length; 40_checksum_engine.md R65, R72). A sanity statement. -/
def Obligations.KnownChecksums : Prop :=
  crc8 [] = 0xFF#8 ∧ crc8 [0x00#8] = 0xAC#8 ∧ crc8 [0x00#8, 0x00#8] = 0x81#8 ∧ crc8 [0x00#8, 0x01#8] = 0xB0#8 ∧
  crc8 [0xBE#8, 0xEF#8] = 0x92#8 ∧ crc8 [0x43#8, 0xDB#8] = 0xCB#8 ∧ crc8 [0x85#8, 0x1F#8] = 0xB8#8 ∧
  crc8 [0xFF#8, 0xFF#8] = 0xAC#8 ∧ crc8 [0xBE#8, 0xEF#8, 0x92#8] = 0x00#8 ∧
  crc8 [0x31#8, 0x32#8, 0x33#8, 0x34#8, 0x35#8, 0x36#8, 0x37#8, 0x38#8, 0x39#8] = 0xF7#8

/-- 40_checksum_engine.md R67: the combinational form is the same function. -/
def Obligations.CombinationalFormIsTheSameFunction : Prop :=
  ∀ r b : Byte, crcByte r b = crcByteXor r b

/-- 40_checksum_engine.md R66: the table form is the same function, its entries are eight iterations, and eight of them generate it. -/
def Obligations.TableFormIsTheSameFunction : Prop :=
  (∀ r b : Byte, crcByte r b = crcByteTable r b) ∧
  (∀ x : Byte, crcByteTable x 0#8 = crcBits 8 x) ∧
  (∀ x y : Byte, crcByteTable (x ^^^ y) 0#8 = crcByteTable x 0#8 ^^^ crcByteTable y 0#8) ∧
  crcByteTable 0x00#8 0#8 = 0x00#8 ∧ crcByteTable 0x01#8 0#8 = 0x31#8 ∧ crcByteTable 0x02#8 0#8 = 0x62#8 ∧
  crcByteTable 0x04#8 0#8 = 0xC4#8 ∧ crcByteTable 0x08#8 0#8 = 0xB9#8 ∧ crcByteTable 0x10#8 0#8 = 0x43#8 ∧
  crcByteTable 0x20#8 0#8 = 0x86#8 ∧ crcByteTable 0x40#8 0#8 = 0x3D#8 ∧ crcByteTable 0x80#8 0#8 = 0x7A#8

/-- 40_checksum_engine.md R68: `crc_bit` and `crc_byte` are linear over XOR, and `crc8` is affine on sequences of equal length. -/
def Obligations.ChecksumIsLinearUpToItsStart : Prop :=
  (∀ x y : Byte, crcBit (x ^^^ y) = crcBit x ^^^ crcBit y) ∧
  (∀ r1 r2 b1 b2 : Byte, crcByte (r1 ^^^ r2) (b1 ^^^ b2) = crcByte r1 b1 ^^^ crcByte r2 b2) ∧
  (∀ s t : List Byte, s.length = t.length →
    crc8 (List.zipWith (· ^^^ ·) s t) = crc8 s ^^^ crc8 t ^^^ crc8 (List.replicate s.length 0#8)) ∧
  ∀ d0 d1 : Byte, crc8 [d0, d1] = crcFrom 0x00#8 [d0, d1] ^^^ 0x81#8

/-- 40_checksum_engine.md R69: a sequence followed by its own checksum leaves zero, and a group is valid exactly when its three bytes
do. -/
def Obligations.ZeroResidue : Prop :=
  (∀ s : List Byte, crc8 (s ++ [crc8 s]) = 0x00#8) ∧
  ∀ d0 d1 c : Byte, groupOk d0 d1 c = true ↔ crc8 [d0, d1, c] = 0x00#8

/-- 40_checksum_engine.md R70: absorbing a byte is a bijection in the register and in the byte, so each first data byte has exactly one
second data byte for each checksum, and each checksum is that of exactly 256 data values. -/
def Obligations.AbsorbingAByteIsABijection : Prop :=
  (∀ b : Byte, Function.Bijective fun r => crcByte r b) ∧
  (∀ r : Byte, Function.Bijective fun b => crcByte r b) ∧
  (∀ d0 c : Byte, ∃! d1, crc8 [d0, d1] = c) ∧
  ∀ c : Byte, Nat.card { d : Byte × Byte // crc8 [d.1, d.2] = c } = 256

/-- Any one flipped bit of a valid group, its checksum byte included, makes `DEC_GROUP` raise `ChecksumMismatch` in every state
(40_checksum_engine.md R71 (a)). -/
def Obligations.EverySingleBitFlipIsDetected : Prop :=
  ∀ (g : BitVec 24) (k : Fin 24) (s : State), groupWordOk g = true →
    ∃ d0 d1 c, d0 ++ d1 ++ c = g ^^^ BitVec.twoPow 24 k.val ∧
      exec (.decGroup d0 d1 c) s = .next { s with data := none, dataValid := false, err := 0b01#2 }

/-- Whether an error pattern goes unseen does not depend on the data, and it does exactly when its checksum byte is the zero-start
checksum of its data bytes (40_checksum_engine.md R71, the last sentences). -/
def Obligations.DetectionDoesNotDependOnTheData : Prop :=
  ∀ g e : BitVec 24, groupWordOk g = true →
    (groupWordOk (g ^^^ e) = true ↔ crcFrom 0x00#8 [e.extractLsb' 16 8, e.extractLsb' 8 8] = e.extractLsb' 0 8)

/-- Every error of two or three flipped bits, every error of an odd number of flipped bits, and every burst within eight consecutive
bits is detected; the four-bit pattern `0x000131` is not (40_checksum_engine.md R71 (b) to (e)). -/
def Obligations.ShortErrorsOddErrorsAndBurstsAreDetected : Prop :=
  (∀ (g : BitVec 24) (i j : Fin 24), groupWordOk g = true → i ≠ j →
    groupWordOk (g ^^^ BitVec.twoPow 24 i.val ^^^ BitVec.twoPow 24 j.val) = false) ∧
  (∀ (g : BitVec 24) (i j k : Fin 24), groupWordOk g = true → i ≠ j → j ≠ k → i ≠ k →
    groupWordOk (g ^^^ BitVec.twoPow 24 i.val ^^^ BitVec.twoPow 24 j.val ^^^ BitVec.twoPow 24 k.val) = false) ∧
  (∀ g e : BitVec 24, groupWordOk g = true → oddFlips e = true → groupWordOk (g ^^^ e) = false) ∧
  (∀ (g : BitVec 24) (v : Byte) (k : Nat), groupWordOk g = true → v ≠ 0#8 → k ≤ 16 →
    groupWordOk (g ^^^ (v.zeroExtend 24 <<< k)) = false) ∧
  ∀ g : BitVec 24, groupWordOk g = true → groupWordOk (g ^^^ 0x000131#24) = true

/-- 40_checksum_engine.md R72: a bus that reads all zeros or all ones is rejected by every decode operation. -/
def Obligations.StuckBusIsRejected : Prop :=
  ∀ (s : State) (v : Byte), v = 0x00#8 ∨ v = 0xFF#8 →
    exec (.decGroup v v v) s = .next { s with data := none, dataValid := false, err := 0b01#2 } ∧
    (∀ b0 b1 cb, exec (.decFloat v v v b0 b1 cb) s = .next { s with fword := none, fwordValid := false, err := 0b01#2 }) ∧
    (∀ a0 a1 ca, exec (.decFloat a0 a1 ca v v v) s = .next { s with fword := none, fwordValid := false, err := 0b01#2 }) ∧
    crc8 [0x00#8, 0x00#8] = 0x81#8 ∧ crc8 [0xFF#8, 0xFF#8] = 0xAC#8

/-! ### The frame codec -/

/-- 20_memory.md R28 and R29: splitting a 16-bit value and joining its bytes are inverse, the byte at the lower index the more
significant; the float word that `DEC_FLOAT` leaves has `p0` in bits 31:24, `p1` in 23:16, `p3` in 15:8 and `p4` in 7:0. -/
def Obligations.BytesJoinAndSplitBigEndian : Prop :=
  (∀ w : Half, bytesOf w = [w.extractLsb' 8 8, w.extractLsb' 0 8] ∧ be16 (w.extractLsb' 8 8) (w.extractLsb' 0 8) = w) ∧
  (∀ a b : Byte, (be16 a b).toNat = a.toNat * 256 + b.toNat ∧ bytesOf (be16 a b) = [a, b]) ∧
  (∀ q0 q1 q3 q4 : Byte, (be32 q0 q1 q3 q4).extractLsb' 24 8 = q0 ∧ (be32 q0 q1 q3 q4).extractLsb' 16 8 = q1 ∧
    (be32 q0 q1 q3 q4).extractLsb' 8 8 = q3 ∧ (be32 q0 q1 q3 q4).extractLsb' 0 8 = q4) ∧
  (∀ q0 q1 q3 q4 : Byte, be32 q0 q1 q3 q4 = be16 q0 q1 ++ be16 q3 q4) ∧
  ∀ (q0 q1 q2 q3 q4 q5 : Byte) (s : State), crc8 [q0, q1] = q2 → crc8 [q3, q4] = q5 →
    ∃ t, exec (.decFloat q0 q1 q2 q3 q4 q5) s = .next t ∧ t.fword = some (be32 q0 q1 q3 q4)

/-- 41_frame_codec_encode.md R76: after every encode operation the length is 2 or 5, the first two bytes are the opcode, a long frame's
last byte is the checksum of the two parameter bytes, and no checksum covers the opcode. -/
def Obligations.FramesAreAsTheOpcodeAndParameterSay : Prop :=
  (∀ (opc : Half) (s : State), ∃ t a b, exec (.encCmd opc) s = .next t ∧ t.txlen = 2#3 ∧ txFrame t = [a, b] ∧ a ++ b = opc) ∧
  (∀ (opc par : Half) (s : State), ∃ t a b c d e, exec (.encCmdP opc par) s = .next t ∧ t.txlen = 5#3 ∧
    txFrame t = [a, b, c, d, e] ∧ a ++ b = opc ∧ c ++ d = par ∧ e = crc8 [c, d]) ∧
  ∀ (opc opc' par : Half) (s : State), ∃ t t', exec (.encCmdP opc par) s = .next t ∧ exec (.encCmdP opc' par) s = .next t' ∧
    t.txbuf[4] = t'.txbuf[4]

/-- 30_encoding.md R48 and 10_state.md R25: after `ENC_CMD_P` the packed port holds the opcode in bits 39:24, the parameter in bits 23:8
and the checksum in bits 7:0, and bytes 2 to 4 are a valid group. -/
def Obligations.LongFrameOnThePackedPort : Prop :=
  ∀ (opc par : Half) (s : State), ∃ t v, exec (.encCmdP opc par) s = .next t ∧ portValue t .txbufAll = some v ∧
    v.extractLsb' 24 16 = opc ∧ v.extractLsb' 8 16 = par ∧ v.extractLsb' 0 8 = crc8 (bytesOf par) ∧
    groupWordOk (v.extractLsb' 0 24) = true

/-- 41_frame_codec_encode.md R77: the parameter bytes of every long frame decode back to the parameter, by the `VERIFY_TX` sequence of
30_encoding.md R56. -/
def Obligations.EncodedParameterDecodesBack : Prop :=
  ∀ (opc par : Half) (s : State), ∃ t u d0 d1 c, exec (.encCmdP opc par) s = .next t ∧
    t.txbuf[2] = some d0 ∧ t.txbuf[3] = some d1 ∧ t.txbuf[4] = some c ∧
    pseudoVerifyTx t = some (.decGroup d0 d1 c) ∧
    exec (.decGroup d0 d1 c) t = .next u ∧ u.err = 0b00#2 ∧ u.dataValid = true ∧ u.data = some par ∧ u.txbuf = t.txbuf

/-- 42_frame_codec_decode.md R87: `DEC_FLOAT` accepts exactly the bytes whose two halves `DEC_GROUP` accepts, and its halves are their
data; each leaves the other's latch alone. -/
def Obligations.DecFloatAgreesWithTwoDecGroups : Prop :=
  ∀ (a0 a1 ca b0 b1 cb : Byte) (s s1 s2 : State), ∃ t u v,
    exec (.decFloat a0 a1 ca b0 b1 cb) s = .next t ∧ exec (.decGroup a0 a1 ca) s1 = .next u ∧
    exec (.decGroup b0 b1 cb) s2 = .next v ∧
    t.fwordValid = (u.dataValid && v.dataValid) ∧
    (t.fwordValid = true → ∃ f h l, t.fword = some f ∧ u.data = some h ∧ v.data = some l ∧
      f.extractLsb' 16 16 = h ∧ f.extractLsb' 0 16 = l) ∧
    t.data = s.data ∧ t.dataValid = s.dataValid ∧ u.fword = s1.fword ∧ u.fwordValid = s1.fwordValid

/-- The pseudo-instructions of 30_encoding.md R56 leave what the rule's table says: `CHECKSUM` the checksum of its bytes, `ENCODE` the
frame with or without a parameter. -/
def Obligations.PseudoInstructionsLeaveTheirResults : Prop :=
  (∀ (bs : List Byte) (s : State), ∃ t, execAll (pseudoChecksum bs) s = .next t ∧ t.crc = crc8 bs ∧ t.txbuf = s.txbuf ∧
    t.data = s.data ∧ t.fword = s.fword) ∧
  (∀ (opc : Half) (s : State), ∃ t, execAll (pseudoEncode opc none) s = .next t ∧ txFrame t = bytesOf opc ∧ t.crc = s.crc) ∧
  ∀ (opc par : Half) (s : State), ∃ t, execAll (pseudoEncode opc (some par)) s = .next t ∧
    txFrame t = bytesOf opc ++ bytesOf par ++ [crc8 (bytesOf par)] ∧ t.crc = s.crc

/-! ### The software around the block -/

/-- Measurement decode (45_wire_commands.md R103, 42_frame_codec_decode.md R83): three float words from 18 bytes when all six groups
pass, `ChecksumMismatch` and nothing returned when any fails. -/
def Obligations.MeasurementNeedsAllSixGroups : Prop :=
  ∀ (x0 x1 x2 x3 x4 x5 y0 y1 y2 y3 y4 y5 z0 z1 z2 z3 z4 z5 : Byte) (d : DriverState),
    (decodeMeasurement [x0, x1, x2, x3, x4, x5, y0, y1, y2, y3, y4, y5, z0, z1, z2, z3, z4, z5] d).1 =
      if crc8 [x0, x1] = x2 ∧ crc8 [x3, x4] = x5 ∧ crc8 [y0, y1] = y2 ∧ crc8 [y3, y4] = y5 ∧ crc8 [z0, z1] = z2 ∧
        crc8 [z3, z4] = z5 then
        .ok ⟨x0 ++ x1 ++ x3 ++ x4, y0 ++ y1 ++ y3 ++ y4, z0 ++ z1 ++ z3 ++ z4⟩
      else .failed .checksumMismatch

/-- The session (45_wire_commands.md R108): on a closed session every command, Open and Close fail with `InvalidState`, the session stays
closed and no call reaches the transport; Close of an open session ends Closed whatever Stop continuous mode answered, having attempted
it once. That Open and Close on a closed session answer `InvalidState`, and that a Close before Open has no meaning, is the model's choice
(log entry 9). -/
def Obligations.ClosedIsTerminalAndCloseEndsAnOpenSession : Prop :=
  (∀ (d : DriverState) (i : Instr) (len : Nat) (rule : ReadyRule) (check : Bool) (x : Rat) (addr : BitVec 7), d.session = .closed →
    writeCommand i d = (.failed .invalidState, d) ∧ readCommand i len d = (.failed .invalidState, d) ∧
    readMeasurementCall d = (.failed .invalidState, d) ∧ dataReadyCall rule d = (.failed .invalidState, d) ∧
    dataReady d = (.failed .invalidState, d) ∧ firmwareCall check d = (.failed .invalidState, d) ∧
    firmwareVersion d = (.failed .invalidState, d) ∧ setTemperatureOffset x d = (.failed .invalidState, d) ∧
    openSession check addr d = (.failed .invalidState, d) ∧ closeSession d = (.failed .invalidState, d)) ∧
  ∀ (d : DriverState) (addr : BitVec 7), d.session = .opened addr →
    ∃ r d', closeSession d = (.ok r, d') ∧ d'.session = .closed ∧ d'.calls = .write addr [0x01#8, 0x04#8] :: d.calls

/-- The numeric reading of a float word on the spec's example and at the edges of the format (42_frame_codec_decode.md R85, which the
spec marks as general knowledge; log entry 12). A sanity statement. -/
def Obligations.FloatReadingOfTheExample : Prop :=
  readFloat 0x43DB851F#32 = .finite false 14386463 (-15) ∧ readFloat 0x00000000#32 = .zero false ∧
  readFloat 0x80000000#32 = .zero true ∧ readFloat 0x00000001#32 = .finite false 1 (-149) ∧
  readFloat 0x7F800000#32 = .infinity false ∧ readFloat 0x7FC00001#32 = .nan ∧ readFloat 0xFFFFFFFF#32 = .nan
end

