-- ==== Sys2Proof/Laws/Fields.lean ====
section
/-!
SUPPORT. The small lemmas of the word formats: each field of a word put together from its fields, and a word put together again from its
own fields.
-/
namespace Sys2Proof.Machine

/-- The fields above a low part, read through a concatenation. -/
theorem extract_above {v w k n : Nat} (x : BitVec v) (y : BitVec w) :
    (x ++ y).extractLsb' (w + k) n = x.extractLsb' k n := by
  rw [BitVec.extractLsb'_append_eq_of_le (Nat.le_add_right w k)]; simp

/-- The high part of a concatenation. -/
theorem extract_high {v w : Nat} (x : BitVec v) (y : BitVec w) : (x ++ y).extractLsb' w v = x := by
  rw [BitVec.extractLsb'_append_eq_of_le (Nat.le_refl w)]; simp

/-- The low part of a concatenation. -/
theorem extract_low {v w : Nat} (x : BitVec v) (y : BitVec w) : (x ++ y).extractLsb' 0 w = y := by
  rw [BitVec.extractLsb'_append_eq_of_add_le (by omega)]; simp

/-- Two neighbouring fields joined. -/
theorem extract_join {w : Nat} (x : BitVec w) (s n m : Nat) :
    x.extractLsb' (s + n) m ++ x.extractLsb' s n = x.extractLsb' s (m + n) :=
  BitVec.extractLsb'_append_extractLsb'_eq_extractLsb' rfl

@[simp] theorem hi8_be16 (a b : Byte) : hi8 (be16 a b) = a := extract_high a b
@[simp] theorem lo8_be16 (a b : Byte) : lo8 (be16 a b) = b := extract_low a b
@[simp] theorem be16_hi8_lo8 (w : Half) : be16 (hi8 w) (lo8 w) = w := (extract_join w 0 8 8).trans (by simp)

@[simp] theorem sel_opWordOf (k q0 q1 q2 q3 q4 q5 : Byte) : sel (opWordOf k q0 q1 q2 q3 q4 q5) = k :=
  (extract_above (k := 40) (k ++ q0 ++ q1 ++ q2 ++ q3 ++ q4) q5).trans <|
    (extract_above (k := 32) (k ++ q0 ++ q1 ++ q2 ++ q3) q4).trans <|
    (extract_above (k := 24) (k ++ q0 ++ q1 ++ q2) q3).trans <|
    (extract_above (k := 16) (k ++ q0 ++ q1) q2).trans <|
    (extract_above (k := 8) (k ++ q0) q1).trans <|
    extract_high k q0
@[simp] theorem p0_opWordOf (k q0 q1 q2 q3 q4 q5 : Byte) : p0 (opWordOf k q0 q1 q2 q3 q4 q5) = q0 :=
  (extract_above (k := 32) (k ++ q0 ++ q1 ++ q2 ++ q3 ++ q4) q5).trans <|
    (extract_above (k := 24) (k ++ q0 ++ q1 ++ q2 ++ q3) q4).trans <|
    (extract_above (k := 16) (k ++ q0 ++ q1 ++ q2) q3).trans <|
    (extract_above (k := 8) (k ++ q0 ++ q1) q2).trans <|
    (extract_above (k := 0) (k ++ q0) q1).trans <|
    extract_low (k) q0
@[simp] theorem p1_opWordOf (k q0 q1 q2 q3 q4 q5 : Byte) : p1 (opWordOf k q0 q1 q2 q3 q4 q5) = q1 :=
  (extract_above (k := 24) (k ++ q0 ++ q1 ++ q2 ++ q3 ++ q4) q5).trans <|
    (extract_above (k := 16) (k ++ q0 ++ q1 ++ q2 ++ q3) q4).trans <|
    (extract_above (k := 8) (k ++ q0 ++ q1 ++ q2) q3).trans <|
    (extract_above (k := 0) (k ++ q0 ++ q1) q2).trans <|
    extract_low (k ++ q0) q1
@[simp] theorem p2_opWordOf (k q0 q1 q2 q3 q4 q5 : Byte) : p2 (opWordOf k q0 q1 q2 q3 q4 q5) = q2 :=
  (extract_above (k := 16) (k ++ q0 ++ q1 ++ q2 ++ q3 ++ q4) q5).trans <|
    (extract_above (k := 8) (k ++ q0 ++ q1 ++ q2 ++ q3) q4).trans <|
    (extract_above (k := 0) (k ++ q0 ++ q1 ++ q2) q3).trans <|
    extract_low (k ++ q0 ++ q1) q2
@[simp] theorem p3_opWordOf (k q0 q1 q2 q3 q4 q5 : Byte) : p3 (opWordOf k q0 q1 q2 q3 q4 q5) = q3 :=
  (extract_above (k := 8) (k ++ q0 ++ q1 ++ q2 ++ q3 ++ q4) q5).trans <|
    (extract_above (k := 0) (k ++ q0 ++ q1 ++ q2 ++ q3) q4).trans <|
    extract_low (k ++ q0 ++ q1 ++ q2) q3
@[simp] theorem p4_opWordOf (k q0 q1 q2 q3 q4 q5 : Byte) : p4 (opWordOf k q0 q1 q2 q3 q4 q5) = q4 :=
  (extract_above (k := 0) (k ++ q0 ++ q1 ++ q2 ++ q3 ++ q4) q5).trans <|
    extract_low (k ++ q0 ++ q1 ++ q2 ++ q3) q4
@[simp] theorem p5_opWordOf (k q0 q1 q2 q3 q4 q5 : Byte) : p5 (opWordOf k q0 q1 q2 q3 q4 q5) = q5 :=
  extract_low (k ++ q0 ++ q1 ++ q2 ++ q3 ++ q4) q5

/-- A word is its select code and its six payload bytes. -/
theorem opWordOf_fields (w : OpWord) : opWordOf (sel w) (p0 w) (p1 w) (p2 w) (p3 w) (p4 w) (p5 w) = w := by
  unfold opWordOf sel p0 p1 p2 p3 p4 p5
  rw [extract_join w 40 8 8, extract_join w 32 8 16, extract_join w 24 8 24, extract_join w 16 8 32, extract_join w 8 8 40,
    extract_join w 0 8 48]
  simp

/-- Two words with the same fields are the same word. -/
theorem opWordOf_inj {k q0 q1 q2 q3 q4 q5 k' q0' q1' q2' q3' q4' q5' : Byte} :
    opWordOf k q0 q1 q2 q3 q4 q5 = opWordOf k' q0' q1' q2' q3' q4' q5' ↔
      k = k' ∧ q0 = q0' ∧ q1 = q1' ∧ q2 = q2' ∧ q3 = q3' ∧ q4 = q4' ∧ q5 = q5' := by
  constructor
  · intro h
    exact ⟨by simpa using congrArg sel h, by simpa using congrArg p0 h, by simpa using congrArg p1 h,
      by simpa using congrArg p2 h, by simpa using congrArg p3 h, by simpa using congrArg p4 h, by simpa using congrArg p5 h⟩
  · rintro ⟨rfl, rfl, rfl, rfl, rfl, rfl, rfl⟩; rfl

/-- A mask acts byte by byte. -/
theorem opWordOf_and (k q0 q1 q2 q3 q4 q5 m m0 m1 m2 m3 m4 m5 : Byte) :
    opWordOf k q0 q1 q2 q3 q4 q5 &&& opWordOf m m0 m1 m2 m3 m4 m5 =
      opWordOf (k &&& m) (q0 &&& m0) (q1 &&& m1) (q2 &&& m2) (q3 &&& m3) (q4 &&& m4) (q5 &&& m5) := by
  unfold opWordOf
  iterate 6 rw [BitVec.and_append]

@[simp] theorem frameOpcode_longFrameOf (opc par : Half) (crc : Byte) : frameOpcode (longFrameOf opc par crc) = opc :=
  (extract_above (k := 16) (opc ++ par) crc).trans (extract_high opc par)
@[simp] theorem frameParameter_longFrameOf (opc par : Half) (crc : Byte) : frameParameter (longFrameOf opc par crc) = par :=
  (extract_above (k := 0) (opc ++ par) crc).trans (extract_low opc par)
@[simp] theorem frameChecksum_longFrameOf (opc par : Half) (crc : Byte) : frameChecksum (longFrameOf opc par crc) = crc :=
  extract_low (opc ++ par) crc

/-- A long frame is its three fields. -/
theorem longFrameOf_fields (w : BitVec 40) : longFrameOf (frameOpcode w) (frameParameter w) (frameChecksum w) = w := by
  unfold longFrameOf frameOpcode frameParameter frameChecksum
  rw [extract_join w 8 16 16, extract_join w 0 8 32]
  simp

/-- The pad of an operation is zero byte by byte. -/
@[simp] theorem padZero_nil : padZero [] = true := rfl
@[simp] theorem padZero_cons (x : Byte) (xs : List Byte) : padZero (x :: xs) = true ↔ x = 0#8 ∧ padZero xs = true := by
  simp [padZero]

end Sys2Proof.Machine
end

