-- ==== Sys2Proof/Laws/State.lean ====
section
/-!
SUPPORT. One lemma per field per named operation on the state: what the field holds afterwards.
-/
namespace Sys2Proof.Machine

@[simp] theorem writeCrc_crc (v : Byte) (s : State) : (writeCrc v s).crc = v := rfl
@[simp] theorem writeCrc_txbuf (v : Byte) (s : State) : (writeCrc v s).txbuf = s.txbuf := rfl
@[simp] theorem writeCrc_txlen (v : Byte) (s : State) : (writeCrc v s).txlen = s.txlen := rfl
@[simp] theorem writeCrc_data (v : Byte) (s : State) : (writeCrc v s).data = s.data := rfl
@[simp] theorem writeCrc_dataValid (v : Byte) (s : State) : (writeCrc v s).dataValid = s.dataValid := rfl
@[simp] theorem writeCrc_fword (v : Byte) (s : State) : (writeCrc v s).fword = s.fword := rfl
@[simp] theorem writeCrc_fwordValid (v : Byte) (s : State) : (writeCrc v s).fwordValid = s.fwordValid := rfl
@[simp] theorem writeCrc_err (v : Byte) (s : State) : (writeCrc v s).err = s.err := rfl
@[simp] theorem writeCrc_pending (v : Byte) (s : State) : (writeCrc v s).pending = s.pending := rfl

@[simp] theorem writeErr_crc (e : BitVec 2) (s : State) : (writeErr e s).crc = s.crc := rfl
@[simp] theorem writeErr_txbuf (e : BitVec 2) (s : State) : (writeErr e s).txbuf = s.txbuf := rfl
@[simp] theorem writeErr_txlen (e : BitVec 2) (s : State) : (writeErr e s).txlen = s.txlen := rfl
@[simp] theorem writeErr_data (e : BitVec 2) (s : State) : (writeErr e s).data = s.data := rfl
@[simp] theorem writeErr_dataValid (e : BitVec 2) (s : State) : (writeErr e s).dataValid = s.dataValid := rfl
@[simp] theorem writeErr_fword (e : BitVec 2) (s : State) : (writeErr e s).fword = s.fword := rfl
@[simp] theorem writeErr_fwordValid (e : BitVec 2) (s : State) : (writeErr e s).fwordValid = s.fwordValid := rfl
@[simp] theorem writeErr_err (e : BitVec 2) (s : State) : (writeErr e s).err = e := rfl
@[simp] theorem writeErr_pending (e : BitVec 2) (s : State) : (writeErr e s).pending = s.pending := rfl

@[simp] theorem latchShortFrame_crc (opc : Half) (s : State) : (latchShortFrame opc s).crc = s.crc := rfl
@[simp] theorem latchShortFrame_txbuf (opc : Half) (s : State) : (latchShortFrame opc s).txbuf = #v[some (hi8 opc), some (lo8 opc), none, none, none] := rfl
@[simp] theorem latchShortFrame_txlen (opc : Half) (s : State) : (latchShortFrame opc s).txlen = 2#3 := rfl
@[simp] theorem latchShortFrame_data (opc : Half) (s : State) : (latchShortFrame opc s).data = s.data := rfl
@[simp] theorem latchShortFrame_dataValid (opc : Half) (s : State) : (latchShortFrame opc s).dataValid = s.dataValid := rfl
@[simp] theorem latchShortFrame_fword (opc : Half) (s : State) : (latchShortFrame opc s).fword = s.fword := rfl
@[simp] theorem latchShortFrame_fwordValid (opc : Half) (s : State) : (latchShortFrame opc s).fwordValid = s.fwordValid := rfl
@[simp] theorem latchShortFrame_err (opc : Half) (s : State) : (latchShortFrame opc s).err = s.err := rfl
@[simp] theorem latchShortFrame_pending (opc : Half) (s : State) : (latchShortFrame opc s).pending = s.pending := rfl

@[simp] theorem latchLongFrame_crc (opc par : Half) (s : State) : (latchLongFrame opc par s).crc = s.crc := rfl
@[simp] theorem latchLongFrame_txbuf (opc par : Half) (s : State) : (latchLongFrame opc par s).txbuf = 
      #v[some (hi8 opc), some (lo8 opc), some (hi8 par), some (lo8 par), some (crc8 (bytesOf par))] := rfl
@[simp] theorem latchLongFrame_txlen (opc par : Half) (s : State) : (latchLongFrame opc par s).txlen = 5#3 := rfl
@[simp] theorem latchLongFrame_data (opc par : Half) (s : State) : (latchLongFrame opc par s).data = s.data := rfl
@[simp] theorem latchLongFrame_dataValid (opc par : Half) (s : State) : (latchLongFrame opc par s).dataValid = s.dataValid := rfl
@[simp] theorem latchLongFrame_fword (opc par : Half) (s : State) : (latchLongFrame opc par s).fword = s.fword := rfl
@[simp] theorem latchLongFrame_fwordValid (opc par : Half) (s : State) : (latchLongFrame opc par s).fwordValid = s.fwordValid := rfl
@[simp] theorem latchLongFrame_err (opc par : Half) (s : State) : (latchLongFrame opc par s).err = s.err := rfl
@[simp] theorem latchLongFrame_pending (opc par : Half) (s : State) : (latchLongFrame opc par s).pending = s.pending := rfl

@[simp] theorem latchData_crc (v : Half) (s : State) : (latchData v s).crc = s.crc := rfl
@[simp] theorem latchData_txbuf (v : Half) (s : State) : (latchData v s).txbuf = s.txbuf := rfl
@[simp] theorem latchData_txlen (v : Half) (s : State) : (latchData v s).txlen = s.txlen := rfl
@[simp] theorem latchData_data (v : Half) (s : State) : (latchData v s).data = some v := rfl
@[simp] theorem latchData_dataValid (v : Half) (s : State) : (latchData v s).dataValid = true := rfl
@[simp] theorem latchData_fword (v : Half) (s : State) : (latchData v s).fword = s.fword := rfl
@[simp] theorem latchData_fwordValid (v : Half) (s : State) : (latchData v s).fwordValid = s.fwordValid := rfl
@[simp] theorem latchData_err (v : Half) (s : State) : (latchData v s).err = s.err := rfl
@[simp] theorem latchData_pending (v : Half) (s : State) : (latchData v s).pending = s.pending := rfl

@[simp] theorem latchFword_crc (v : FloatWord) (s : State) : (latchFword v s).crc = s.crc := rfl
@[simp] theorem latchFword_txbuf (v : FloatWord) (s : State) : (latchFword v s).txbuf = s.txbuf := rfl
@[simp] theorem latchFword_txlen (v : FloatWord) (s : State) : (latchFword v s).txlen = s.txlen := rfl
@[simp] theorem latchFword_data (v : FloatWord) (s : State) : (latchFword v s).data = s.data := rfl
@[simp] theorem latchFword_dataValid (v : FloatWord) (s : State) : (latchFword v s).dataValid = s.dataValid := rfl
@[simp] theorem latchFword_fword (v : FloatWord) (s : State) : (latchFword v s).fword = some v := rfl
@[simp] theorem latchFword_fwordValid (v : FloatWord) (s : State) : (latchFword v s).fwordValid = true := rfl
@[simp] theorem latchFword_err (v : FloatWord) (s : State) : (latchFword v s).err = s.err := rfl
@[simp] theorem latchFword_pending (v : FloatWord) (s : State) : (latchFword v s).pending = s.pending := rfl

@[simp] theorem emptyDecodeLatch_data_crc (s : State) : (emptyDecodeLatch .data s).crc = s.crc := rfl
@[simp] theorem emptyDecodeLatch_data_txbuf (s : State) : (emptyDecodeLatch .data s).txbuf = s.txbuf := rfl
@[simp] theorem emptyDecodeLatch_data_txlen (s : State) : (emptyDecodeLatch .data s).txlen = s.txlen := rfl
@[simp] theorem emptyDecodeLatch_data_data (s : State) : (emptyDecodeLatch .data s).data = none := rfl
@[simp] theorem emptyDecodeLatch_data_dataValid (s : State) : (emptyDecodeLatch .data s).dataValid = false := rfl
@[simp] theorem emptyDecodeLatch_data_fword (s : State) : (emptyDecodeLatch .data s).fword = s.fword := rfl
@[simp] theorem emptyDecodeLatch_data_fwordValid (s : State) : (emptyDecodeLatch .data s).fwordValid = s.fwordValid := rfl
@[simp] theorem emptyDecodeLatch_data_err (s : State) : (emptyDecodeLatch .data s).err = s.err := rfl
@[simp] theorem emptyDecodeLatch_data_pending (s : State) : (emptyDecodeLatch .data s).pending = s.pending := rfl

@[simp] theorem emptyDecodeLatch_fword_crc (s : State) : (emptyDecodeLatch .fword s).crc = s.crc := rfl
@[simp] theorem emptyDecodeLatch_fword_txbuf (s : State) : (emptyDecodeLatch .fword s).txbuf = s.txbuf := rfl
@[simp] theorem emptyDecodeLatch_fword_txlen (s : State) : (emptyDecodeLatch .fword s).txlen = s.txlen := rfl
@[simp] theorem emptyDecodeLatch_fword_data (s : State) : (emptyDecodeLatch .fword s).data = s.data := rfl
@[simp] theorem emptyDecodeLatch_fword_dataValid (s : State) : (emptyDecodeLatch .fword s).dataValid = s.dataValid := rfl
@[simp] theorem emptyDecodeLatch_fword_fword (s : State) : (emptyDecodeLatch .fword s).fword = none := rfl
@[simp] theorem emptyDecodeLatch_fword_fwordValid (s : State) : (emptyDecodeLatch .fword s).fwordValid = false := rfl
@[simp] theorem emptyDecodeLatch_fword_err (s : State) : (emptyDecodeLatch .fword s).err = s.err := rfl
@[simp] theorem emptyDecodeLatch_fword_pending (s : State) : (emptyDecodeLatch .fword s).pending = s.pending := rfl

@[simp] theorem succeed_crc (s : State) : (succeed s).crc = s.crc := rfl
@[simp] theorem succeed_txbuf (s : State) : (succeed s).txbuf = s.txbuf := rfl
@[simp] theorem succeed_txlen (s : State) : (succeed s).txlen = s.txlen := rfl
@[simp] theorem succeed_data (s : State) : (succeed s).data = s.data := rfl
@[simp] theorem succeed_dataValid (s : State) : (succeed s).dataValid = s.dataValid := rfl
@[simp] theorem succeed_fword (s : State) : (succeed s).fword = s.fword := rfl
@[simp] theorem succeed_fwordValid (s : State) : (succeed s).fwordValid = s.fwordValid := rfl
@[simp] theorem succeed_err (s : State) : (succeed s).err = errOk := rfl
@[simp] theorem succeed_pending (s : State) : (succeed s).pending = s.pending := rfl

@[simp] theorem raiseError_illegal_crc (s : State) : (raiseError .illegalOperation s).crc = s.crc := rfl
@[simp] theorem raiseError_illegal_txbuf (s : State) : (raiseError .illegalOperation s).txbuf = s.txbuf := rfl
@[simp] theorem raiseError_illegal_txlen (s : State) : (raiseError .illegalOperation s).txlen = s.txlen := rfl
@[simp] theorem raiseError_illegal_data (s : State) : (raiseError .illegalOperation s).data = s.data := rfl
@[simp] theorem raiseError_illegal_dataValid (s : State) : (raiseError .illegalOperation s).dataValid = s.dataValid := rfl
@[simp] theorem raiseError_illegal_fword (s : State) : (raiseError .illegalOperation s).fword = s.fword := rfl
@[simp] theorem raiseError_illegal_fwordValid (s : State) : (raiseError .illegalOperation s).fwordValid = s.fwordValid := rfl
@[simp] theorem raiseError_illegal_err (s : State) : (raiseError .illegalOperation s).err = errIllegalOp := rfl
@[simp] theorem raiseError_illegal_pending (s : State) : (raiseError .illegalOperation s).pending = s.pending := rfl

@[simp] theorem raiseError_data_crc (s : State) : (raiseError (.checksumMismatch .data) s).crc = s.crc := rfl
@[simp] theorem raiseError_data_txbuf (s : State) : (raiseError (.checksumMismatch .data) s).txbuf = s.txbuf := rfl
@[simp] theorem raiseError_data_txlen (s : State) : (raiseError (.checksumMismatch .data) s).txlen = s.txlen := rfl
@[simp] theorem raiseError_data_data (s : State) : (raiseError (.checksumMismatch .data) s).data = none := rfl
@[simp] theorem raiseError_data_dataValid (s : State) : (raiseError (.checksumMismatch .data) s).dataValid = false := rfl
@[simp] theorem raiseError_data_fword (s : State) : (raiseError (.checksumMismatch .data) s).fword = s.fword := rfl
@[simp] theorem raiseError_data_fwordValid (s : State) : (raiseError (.checksumMismatch .data) s).fwordValid = s.fwordValid := rfl
@[simp] theorem raiseError_data_err (s : State) : (raiseError (.checksumMismatch .data) s).err = errChecksumMismatch := rfl
@[simp] theorem raiseError_data_pending (s : State) : (raiseError (.checksumMismatch .data) s).pending = s.pending := rfl

@[simp] theorem raiseError_fword_crc (s : State) : (raiseError (.checksumMismatch .fword) s).crc = s.crc := rfl
@[simp] theorem raiseError_fword_txbuf (s : State) : (raiseError (.checksumMismatch .fword) s).txbuf = s.txbuf := rfl
@[simp] theorem raiseError_fword_txlen (s : State) : (raiseError (.checksumMismatch .fword) s).txlen = s.txlen := rfl
@[simp] theorem raiseError_fword_data (s : State) : (raiseError (.checksumMismatch .fword) s).data = s.data := rfl
@[simp] theorem raiseError_fword_dataValid (s : State) : (raiseError (.checksumMismatch .fword) s).dataValid = s.dataValid := rfl
@[simp] theorem raiseError_fword_fword (s : State) : (raiseError (.checksumMismatch .fword) s).fword = none := rfl
@[simp] theorem raiseError_fword_fwordValid (s : State) : (raiseError (.checksumMismatch .fword) s).fwordValid = false := rfl
@[simp] theorem raiseError_fword_err (s : State) : (raiseError (.checksumMismatch .fword) s).err = errChecksumMismatch := rfl
@[simp] theorem raiseError_fword_pending (s : State) : (raiseError (.checksumMismatch .fword) s).pending = s.pending := rfl

@[simp] theorem resetBlock_crc (s : State) : (resetBlock s).crc = Config.crcInit := rfl
@[simp] theorem resetBlock_txbuf (s : State) : (resetBlock s).txbuf = emptyFrame := rfl
@[simp] theorem resetBlock_txlen (s : State) : (resetBlock s).txlen = 0#3 := rfl
@[simp] theorem resetBlock_data (s : State) : (resetBlock s).data = none := rfl
@[simp] theorem resetBlock_dataValid (s : State) : (resetBlock s).dataValid = false := rfl
@[simp] theorem resetBlock_fword (s : State) : (resetBlock s).fword = none := rfl
@[simp] theorem resetBlock_fwordValid (s : State) : (resetBlock s).fwordValid = false := rfl
@[simp] theorem resetBlock_err (s : State) : (resetBlock s).err = errOk := rfl
@[simp] theorem resetBlock_pending (s : State) : (resetBlock s).pending = s.pending := rfl

end Sys2Proof.Machine
end

