-- ==== Sys2Proof/Laws/Ops.lean ====
section
/-!
SUPPORT. One lemma per shared operation saying everything it can do: what an instruction can leave, what a word or a host event can do,
and what a step takes. Proofs cite these and do not unfold the operations again.
-/
namespace Sys2Proof.Machine

/-- Everything an instruction can do: write the accumulator, latch a frame, a datum or a float word, or raise a checksum mismatch. -/
theorem exec_cases (i : Instr) (s : State) :
    (∃ v, exec i s = .next (succeed (writeCrc v s))) ∨
    (∃ opc, exec i s = .next (succeed (latchShortFrame opc s))) ∨
    (∃ opc par, exec i s = .next (succeed (latchLongFrame opc par s))) ∨
    (∃ v, exec i s = .next (succeed (latchData v s))) ∨
    (∃ v, exec i s = .next (succeed (latchFword v s))) ∨
    ∃ l, exec i s = .next (raiseError (.checksumMismatch l) s) := by
  cases i with
  | crcInit => exact .inl ⟨_, rfl⟩
  | crcByte b => exact .inl ⟨_, rfl⟩
  | encCmd opc => exact .inr (.inl ⟨_, rfl⟩)
  | encCmdP opc par => exact .inr (.inr (.inl ⟨_, _, rfl⟩))
  | decGroup d0 d1 c =>
    cases h : groupOk d0 d1 c with
    | true => exact .inr (.inr (.inr (.inl ⟨be16 d0 d1, by simp [exec, execDecGroup, h]⟩)))
    | false => exact .inr (.inr (.inr (.inr (.inr ⟨.data, by simp [exec, execDecGroup, h]⟩))))
  | decFloat a0 a1 ca b0 b1 cb =>
    cases h : groupOk a0 a1 ca && groupOk b0 b1 cb with
    | true => exact .inr (.inr (.inr (.inr (.inl ⟨be32 a0 a1 b0 b1, by rw [exec, execDecFloat, h]; rfl⟩))))
    | false => exact .inr (.inr (.inr (.inr (.inr ⟨.fword, by rw [exec, execDecFloat, h]; rfl⟩))))
  | startContinuous par crc => exact .inr (.inr (.inl ⟨_, _, rfl⟩))
  | stopContinuous => exact .inr (.inl ⟨_, rfl⟩)
  | setInterval par crc => exact .inr (.inr (.inl ⟨_, _, rfl⟩))
  | getDataReady => exact .inr (.inl ⟨_, rfl⟩)
  | readMeasurement => exact .inr (.inl ⟨_, rfl⟩)
  | setAsc par crc => exact .inr (.inr (.inl ⟨_, _, rfl⟩))
  | setFrc par crc => exact .inr (.inr (.inl ⟨_, _, rfl⟩))
  | setTempOffset par crc => exact .inr (.inr (.inl ⟨_, _, rfl⟩))
  | setAltitude par crc => exact .inr (.inr (.inl ⟨_, _, rfl⟩))
  | softReset => exact .inr (.inl ⟨_, rfl⟩)
  | getFirmwareVersion => exact .inr (.inl ⟨_, rfl⟩)

/-- A word that decodes runs its instruction. -/
theorem acceptWord_ok {w : Word} {i : Instr} (h : decode w = .ok i) (s : State) : acceptWord w s = exec i s := by
  simp [acceptWord, h]

/-- A word that does not decode is rejected. -/
theorem acceptWord_error {w : Word} {e : DecodeError} (h : decode w = .error e) (s : State) :
    acceptWord w s = rejectWord w s := by
  simp [acceptWord, h]

/-- What an operation word can do: run the instruction it decodes to, or raise `IllegalOperation`. -/
theorem acceptOpWord_cases (w : OpWord) (s : State) :
    (∃ i, decodeOpw w = .ok i ∧ acceptOpWord w s = exec i s) ∨
    (∃ e, decodeOpw w = .error e ∧ acceptOpWord w s = .next (raiseError .illegalOperation s)) := by
  cases h : decodeOpw w with
  | ok i => exact .inl ⟨i, rfl, acceptWord_ok (by simpa [decode] using h) s⟩
  | error e => exact .inr ⟨e, rfl, acceptWord_error (by simpa [decode] using h) s⟩

/-! When a port carries a value (70_reset_and_hazards.md R126), port by port. -/

@[simp] theorem portValue_crc (s : State) : (portValue s .crc).isSome = true := rfl
@[simp] theorem portValue_txbuf (s : State) (i : Fin 5) : (portValue s (.txbuf i)).isSome = s.txbuf[i].isSome := rfl
@[simp] theorem portValue_txbufAll (s : State) : (portValue s .txbufAll).isSome = (packedFrame s.txbuf).isSome := rfl
@[simp] theorem portValue_txlen (s : State) : (portValue s .txlen).isSome = true := rfl
@[simp] theorem portValue_data (s : State) : (portValue s .data).isSome = s.data.isSome := rfl
@[simp] theorem portValue_dataValid (s : State) : (portValue s .dataValid).isSome = true := rfl
@[simp] theorem portValue_fword (s : State) : (portValue s .fword).isSome = s.fword.isSome := rfl
@[simp] theorem portValue_fwordValid (s : State) : (portValue s .fwordValid).isSome = true := rfl
@[simp] theorem portValue_err (s : State) : (portValue s .err).isSome = true := rfl
@[simp] theorem portValue_status (s : State) : (portValue s .status).isSome = true := rfl

/-- The packed port carries a value exactly when every byte of the latch does. -/
theorem packedFrame_isSome (b : Vector (Option Byte) 5) :
    (packedFrame b).isSome =
      (b[0].isSome && b[1].isSome && b[2].isSome && b[3].isSome && b[4].isSome) := by
  unfold packedFrame
  cases b[0] <;> cases b[1] <;> cases b[2] <;> cases b[3] <;> cases b[4] <;> rfl

/-- What the ports carry does not depend on what the host does next. -/
theorem portValue_pending (s : State) (rest : List HostEvent) (p : Port) :
    portValue { s with pending := rest } p = portValue s p := by
  cases p <;> rfl

/-- A read of a port that carries a value changes nothing. -/
theorem usePort_value {p : Port} {s : State} (h : (portValue s p).isSome) : usePort p s = .next s := if_pos h

/-- A read of a port that carries no value is the host's fault. -/
theorem usePort_empty {p : Port} {s : State} (h : ¬ (portValue s p).isSome) : usePort p s = .fault (.emptyLatch p) := if_neg h

/-- Nothing pending, nothing done. -/
theorem step_nil {s : State} (h : s.pending = []) : step s = .next s := by
  simp [step, takeEvent, h]

/-- A step takes the oldest event. -/
theorem step_cons {s : State} {e : HostEvent} {rest : List HostEvent} (h : s.pending = e :: rest) :
    step s = accept e { s with pending := rest } := by
  simp [step, takeEvent, h]

/-- What a host event can lead to, when it answers a next state: the instruction a word decodes to, an illegal operation, a reset, or
nothing at all. -/
theorem accept_next {e : HostEvent} {s t : State} (h : accept e s = .next t) :
    (∃ w i, e = .present w ∧ decode w = .ok i ∧ exec i s = .next t) ∨
    (∃ w, e = .present (.opw w) ∧ t = raiseError .illegalOperation s) ∨
    (∃ op, e = .reset op ∧ t = resetBlock s) ∨
    (∃ p, e = .read p ∧ t = s) := by
  cases e with
  | present w =>
    cases hd : decode w with
    | ok i => exact .inl ⟨w, i, rfl, hd, by rw [← acceptWord_ok hd]; exact h⟩
    | error e =>
      have h' : rejectWord w s = .next t := by rw [← acceptWord_error hd]; exact h
      cases w with
      | opw w => exact .inr (.inl ⟨w, rfl, by simpa [rejectWord] using h'.symm⟩)
      | wire2 w => simp [rejectWord] at h'
      | wire5 w => simp [rejectWord] at h'
  | reset op => exact .inr (.inr (.inl ⟨op, rfl, by simpa [accept] using h.symm⟩))
  | read p =>
    refine .inr (.inr (.inr ⟨p, rfl, ?_⟩))
    by_cases hp : (portValue s p).isSome
    · simpa [accept, usePort_value hp] using h.symm
    · simp [accept, usePort_empty hp] at h
  | secondHost w => simp [accept] at h

/-- Placing a word of a known width: the next step accepts it. -/
theorem step_presentNext (w : Word) (s : State) : step (presentNext w s) = acceptWord w s := rfl

@[simp] theorem andThen_next (s : State) (f : State → Host.Outcome State Fault Refusal) : andThen (.next s) f = f s := rfl

end Sys2Proof.Machine
end

