-- ==== Sys2Proof/Laws/PerInstr.lean ====
section
/-!
SUPPORT. Statements made per instruction. `TableRow`: the encoded word of an instruction matches its own row of spec/opcode_table.json,
the row's mask and match written here from the table (30_encoding.md R45, R57).
-/
namespace Sys2Proof.Laws.TableRow

/-- The bits of a word that a mask of the same format keeps. -/
def maskedBy : Word → Word → Option Word
  | .opw w, .opw m => some (.opw (w &&& m))
  | .wire2 w, .wire2 m => some (.wire2 (w &&& m))
  | .wire5 w, .wire5 m => some (.wire5 (w &&& m))
  | .opw _, .wire2 _ => none
  | .opw _, .wire5 _ => none
  | .wire2 _, .opw _ => none
  | .wire2 _, .wire5 _ => none
  | .wire5 _, .opw _ => none
  | .wire5 _, .wire2 _ => none

/-- "mask" of the instruction's row. -/
def mask : Instr → Word
  | .crcInit => .opw 0xFFFFFFFFFFFFFF#56
  | .crcByte _ => .opw 0xFF00FFFFFFFFFF#56
  | .encCmd _ => .opw 0xFF0000FFFFFFFF#56
  | .encCmdP _ _ => .opw 0xFF00000000FFFF#56
  | .decGroup _ _ _ => .opw 0xFF000000FFFFFF#56
  | .decFloat _ _ _ _ _ _ => .opw 0xFF000000000000#56
  | .startContinuous _ _ => .wire5 0xFFFF000000#40
  | .stopContinuous => .wire2 0xFFFF#16
  | .setInterval _ _ => .wire5 0xFFFF000000#40
  | .getDataReady => .wire2 0xFFFF#16
  | .readMeasurement => .wire2 0xFFFF#16
  | .setAsc _ _ => .wire5 0xFFFF000000#40
  | .setFrc _ _ => .wire5 0xFFFF000000#40
  | .setTempOffset _ _ => .wire5 0xFFFF000000#40
  | .setAltitude _ _ => .wire5 0xFFFF000000#40
  | .softReset => .wire2 0xFFFF#16
  | .getFirmwareVersion => .wire2 0xFFFF#16

/-- "match" of the instruction's row. -/
def pattern : Instr → Word
  | .crcInit => .opw 0x01000000000000#56
  | .crcByte _ => .opw 0x02000000000000#56
  | .encCmd _ => .opw 0x10000000000000#56
  | .encCmdP _ _ => .opw 0x11000000000000#56
  | .decGroup _ _ _ => .opw 0x20000000000000#56
  | .decFloat _ _ _ _ _ _ => .opw 0x21000000000000#56
  | .startContinuous _ _ => .wire5 0x0010000000#40
  | .stopContinuous => .wire2 0x0104#16
  | .setInterval _ _ => .wire5 0x4600000000#40
  | .getDataReady => .wire2 0x0202#16
  | .readMeasurement => .wire2 0x0300#16
  | .setAsc _ _ => .wire5 0x5306000000#40
  | .setFrc _ _ => .wire5 0x5204000000#40
  | .setTempOffset _ _ => .wire5 0x5403000000#40
  | .setAltitude _ _ => .wire5 0x5102000000#40
  | .softReset => .wire2 0xD304#16
  | .getFirmwareVersion => .wire2 0xD100#16

/-- The encoded word has the row's format, and its bits under the row's mask are the row's match. -/
def Statement (i : Instr) : Prop := maskedBy (encode i) (mask i) = some (pattern i)

/-- A long command frame under the mask that fixes its opcode only. -/
theorem long_masked (opc par : BitVec 16) (crc : BitVec 8) :
    (opc ++ par ++ crc) &&& (0xFFFF#16 ++ 0#16 ++ 0#8) = opc ++ 0#16 ++ 0#8 := by
  have h : opc &&& 0xFFFF#16 = opc := BitVec.and_allOnes
  rw [BitVec.and_append, BitVec.and_append, h, BitVec.and_zero, BitVec.and_zero]

/-- An operation word under a mask, byte by byte. -/
theorem op_masked {k q0 q1 q2 q3 q4 q5 m0 m1 m2 m3 m4 m5 : Byte} :
    Machine.opWordOf k q0 q1 q2 q3 q4 q5 &&& Machine.opWordOf 0xFF#8 m0 m1 m2 m3 m4 m5 =
      Machine.opWordOf k (q0 &&& m0) (q1 &&& m1) (q2 &&& m2) (q3 &&& m3) (q4 &&& m4) (q5 &&& m5) := by
  have h : k &&& 0xFF#8 = k := BitVec.and_allOnes
  conv_rhs => rw [← h]
  exact Machine.opWordOf_and ..

theorem crcInit : Statement .crcInit := by unfold Statement; decide
theorem crcByte (b : Byte) : Statement (.crcByte b) := by
  have h := op_masked (k := 0x02#8) (q0 := b) (q1 := 0#8) (q2 := 0#8) (q3 := 0#8) (q4 := 0#8) (q5 := 0#8)
    (m0 := 0#8) (m1 := 0xFF#8) (m2 := 0xFF#8) (m3 := 0xFF#8) (m4 := 0xFF#8) (m5 := 0xFF#8)
  rw [BitVec.and_zero] at h
  exact congrArg (fun w => some (Word.opw w)) h
theorem encCmd (opc : Half) : Statement (.encCmd opc) := by
  have h := op_masked (k := 0x10#8) (q0 := Machine.hi8 opc) (q1 := Machine.lo8 opc) (q2 := 0#8) (q3 := 0#8) (q4 := 0#8) (q5 := 0#8)
    (m0 := 0#8) (m1 := 0#8) (m2 := 0xFF#8) (m3 := 0xFF#8) (m4 := 0xFF#8) (m5 := 0xFF#8)
  rw [BitVec.and_zero, BitVec.and_zero] at h
  exact congrArg (fun w => some (Word.opw w)) h
theorem encCmdP (opc par : Half) : Statement (.encCmdP opc par) := by
  have h := op_masked (k := 0x11#8) (q0 := Machine.hi8 opc) (q1 := Machine.lo8 opc) (q2 := Machine.hi8 par)
    (q3 := Machine.lo8 par) (q4 := 0#8) (q5 := 0#8)
    (m0 := 0#8) (m1 := 0#8) (m2 := 0#8) (m3 := 0#8) (m4 := 0xFF#8) (m5 := 0xFF#8)
  simp only [BitVec.and_zero] at h
  exact congrArg (fun w => some (Word.opw w)) h
theorem decGroup (d0 d1 c : Byte) : Statement (.decGroup d0 d1 c) := by
  have h := op_masked (k := 0x20#8) (q0 := d0) (q1 := d1) (q2 := c) (q3 := 0#8) (q4 := 0#8) (q5 := 0#8)
    (m0 := 0#8) (m1 := 0#8) (m2 := 0#8) (m3 := 0xFF#8) (m4 := 0xFF#8) (m5 := 0xFF#8)
  rw [BitVec.and_zero, BitVec.and_zero, BitVec.and_zero] at h
  exact congrArg (fun w => some (Word.opw w)) h
theorem decFloat (a0 a1 ca b0 b1 cb : Byte) : Statement (.decFloat a0 a1 ca b0 b1 cb) := by
  have h := op_masked (k := 0x21#8) (q0 := a0) (q1 := a1) (q2 := ca) (q3 := b0) (q4 := b1) (q5 := cb)
    (m0 := 0#8) (m1 := 0#8) (m2 := 0#8) (m3 := 0#8) (m4 := 0#8) (m5 := 0#8)
  simp only [BitVec.and_zero] at h
  exact congrArg (fun w => some (Word.opw w)) h
theorem startContinuous (par : Half) (crc : Byte) : Statement (.startContinuous par crc) :=
  congrArg (fun w => some (Word.wire5 w)) (long_masked _ par crc)
theorem stopContinuous : Statement .stopContinuous := by unfold Statement; decide
theorem setInterval (par : Half) (crc : Byte) : Statement (.setInterval par crc) :=
  congrArg (fun w => some (Word.wire5 w)) (long_masked _ par crc)
theorem getDataReady : Statement .getDataReady := by unfold Statement; decide
theorem readMeasurement : Statement .readMeasurement := by unfold Statement; decide
theorem setAsc (par : Half) (crc : Byte) : Statement (.setAsc par crc) :=
  congrArg (fun w => some (Word.wire5 w)) (long_masked _ par crc)
theorem setFrc (par : Half) (crc : Byte) : Statement (.setFrc par crc) :=
  congrArg (fun w => some (Word.wire5 w)) (long_masked _ par crc)
theorem setTempOffset (par : Half) (crc : Byte) : Statement (.setTempOffset par crc) :=
  congrArg (fun w => some (Word.wire5 w)) (long_masked _ par crc)
theorem setAltitude (par : Half) (crc : Byte) : Statement (.setAltitude par crc) :=
  congrArg (fun w => some (Word.wire5 w)) (long_masked _ par crc)
theorem softReset : Statement .softReset := by unfold Statement; decide
theorem getFirmwareVersion : Statement .getFirmwareVersion := by unfold Statement; decide

end Sys2Proof.Laws.TableRow
end

