-- ==== Sys2Proof/Laws/Run.lean ====
section
/-!
SUPPORT. Runs: one step of a run at a time, and that what an operation does to the registers does not depend on what the host does next.
-/
namespace Sys2Proof.Machine

/-- No steps, no change. -/
theorem run_zero (s : State) : Host.Core.run Sys2Proof.core 0 s = .next s := rfl

/-- A run's first step answers a next state, and the run goes on from there. -/
theorem run_succ {s t : State} (h : step s = .next t) (n : Nat) :
    Host.Core.run Sys2Proof.core (n + 1) s = Host.Core.run Sys2Proof.core n t := by
  have h' : Sys2Proof.core.step s = .next t := h
  refine (Host.Core.run.eq_2 Sys2Proof.core s n).trans ?_
  rw [h']

/-- The same instruction on the same registers leaves the same registers, whatever the host does next. -/
theorem exec_pending {i : Instr} {s t : State} (h : exec i s = .next t) (l : List HostEvent) :
    exec i { s with pending := l } = .next { t with pending := l } := by
  cases i with
  | decGroup d0 d1 c =>
    cases hg : groupOk d0 d1 c <;> simp only [exec, execDecGroup, hg] at h ⊢ <;> cases h <;> rfl
  | decFloat a0 a1 ca b0 b1 cb =>
    cases hg : groupOk a0 a1 ca && groupOk b0 b1 cb <;> simp only [exec, execDecFloat, hg] at h ⊢ <;> cases h <;> rfl
  | crcInit | crcByte | encCmd | encCmdP | startContinuous | stopContinuous | setInterval | getDataReady | readMeasurement
  | setAsc | setFrc | setTempOffset | setAltitude | softReset | getFirmwareVersion => cases h; rfl

/-- The same for an operation word. -/
theorem acceptOpWord_pending {w : OpWord} {s t : State} (h : acceptOpWord w s = .next t) (l : List HostEvent) :
    acceptOpWord w { s with pending := l } = .next { t with pending := l } := by
  cases hd : decodeOpw w with
  | ok i =>
    have hd' : decode (.opw w) = .ok i := hd
    have h' : exec i s = .next t := (acceptWord_ok hd' s).symm.trans h
    exact (acceptWord_ok hd' _).trans (exec_pending h' l)
  | error e =>
    have hd' : decode (.opw w) = .error e := hd
    have h' : rejectWord (.opw w) s = .next t := (acceptWord_error hd' s).symm.trans h
    cases h'
    exact acceptWord_error hd' _

/-- The first of several words presented is accepted by the first step. -/
theorem step_presentations (w : OpWord) (ws : List OpWord) (s : State) (rest : List HostEvent) :
    step { s with pending := presentations (w :: ws) ++ rest } =
      acceptOpWord w { s with pending := presentations ws ++ rest } := rfl

end Sys2Proof.Machine
end

