-- ==== Sys2Proof/Tests/Slice0.lean ====
section
/-!
SUPPORT. The model's own tests: expected values from the spec's examples and tables (95_test_vectors.md and the operation rules), ill-formed
terms the well-formedness check refuses, one written-out word per row of the table, and a witness for every statement with hypotheses.
-/
namespace Sys2Proof.Tests

open Sys2Proof Sys2Proof.Machine

set_option maxRecDepth 20000

/-- The next state of an outcome, if it is one. -/
def after (o : Host.Outcome State Fault Refusal) : Option State :=
  match o with
  | .next s => some s
  | .fault _ => none
  | .refused _ => none

/-- The fault of an outcome, if it is one. -/
def faultOf (o : Host.Outcome State Fault Refusal) : Option Fault :=
  match o with
  | .next _ => none
  | .fault r => some r
  | .refused _ => none

/-- The refusal of an outcome, if it is one. -/
def refusalOf (o : Host.Outcome State Fault Refusal) : Option Refusal :=
  match o with
  | .next _ => none
  | .fault _ => none
  | .refused r => some r

/-- The instruction a word decodes to, if any. -/
def decoded (w : Word) : Option Instr := (decode w).toOption

/-- What the decoder says of a word it rejects. -/
def rejection (w : Word) : Option DecodeError :=
  match decode w with
  | .ok _ => none
  | .error e => some e

/-- The state after stepping once on a word of the table placed next. -/
def runWord (s : State) (nbits w : Nat) : Option State := after (step (s.withFetchWord nbits w))

/-! ### Well-formedness: an ill-formed term for each check (30_encoding.md R48) -/

theorem test_wf_accepts_startContinuous : Instr.wf (.startContinuous 0x0000#16 0x81#8) = true := by decide
theorem test_wf_refuses_startContinuous : Instr.wf (.startContinuous 0x0000#16 0x00#8) = false := by decide
theorem test_wf_refuses_setInterval : Instr.wf (.setInterval 0x0002#16 0xE2#8) = false := by decide
theorem test_wf_refuses_setAsc : Instr.wf (.setAsc 0x0001#16 0x81#8) = false := by decide
theorem test_wf_refuses_setFrc : Instr.wf (.setFrc 0x0190#16 0x4D#8) = false := by decide
theorem test_wf_refuses_setTempOffset : Instr.wf (.setTempOffset 0x0096#16 0x1F#8) = false := by decide
theorem test_wf_refuses_setAltitude : Instr.wf (.setAltitude 0x01F4#16 0x34#8) = false := by decide

/-! ### Decoding: each row's word written out from the spec (30_encoding.md R55, 95_test_vectors.md V4 to V9, 45_wire_commands.md) -/

theorem test_decode_crcInit : decoded (.opw 0x01000000000000#56) = some .crcInit := by decide
theorem test_decode_crcByte : decoded (.opw 0x02BE0000000000#56) = some (.crcByte 0xBE#8) := by decide
theorem test_decode_encCmd : decoded (.opw 0x10D30400000000#56) = some (.encCmd 0xD304#16) := by decide
theorem test_decode_encCmdP : decoded (.opw 0x111234BEEF0000#56) = some (.encCmdP 0x1234#16 0xBEEF#16) := by decide
theorem test_decode_decGroup : decoded (.opw 0x20BEEF92000000#56) = some (.decGroup 0xBE#8 0xEF#8 0x92#8) := by decide
theorem test_decode_decFloat :
    decoded (.opw 0x2143DBCB851FB8#56) = some (.decFloat 0x43#8 0xDB#8 0xCB#8 0x85#8 0x1F#8 0xB8#8) := by decide
theorem test_decode_startContinuous : decoded (.wire5 0x001003F5DB#40) = some (.startContinuous 0x03F5#16 0xDB#8) := by decide
theorem test_decode_stopContinuous : decoded (.wire2 0x0104#16) = some .stopContinuous := by decide
theorem test_decode_setInterval : decoded (.wire5 0x4600070896#40) = some (.setInterval 0x0708#16 0x96#8) := by decide
theorem test_decode_getDataReady : decoded (.wire2 0x0202#16) = some .getDataReady := by decide
theorem test_decode_readMeasurement : decoded (.wire2 0x0300#16) = some .readMeasurement := by decide
theorem test_decode_setAsc : decoded (.wire5 0x53060001B0#40) = some (.setAsc 0x0001#16 0xB0#8) := by decide
theorem test_decode_setFrc : decoded (.wire5 0x520401904C#40) = some (.setFrc 0x0190#16 0x4C#8) := by decide
theorem test_decode_setTempOffset : decoded (.wire5 0x540300961E#40) = some (.setTempOffset 0x0096#16 0x1E#8) := by decide
theorem test_decode_setAltitude : decoded (.wire5 0x510201F433#40) = some (.setAltitude 0x01F4#16 0x33#8) := by decide
theorem test_decode_softReset : decoded (.wire2 0xD304#16) = some .softReset := by decide
theorem test_decode_getFirmwareVersion : decoded (.wire2 0xD100#16) = some .getFirmwareVersion := by decide
theorem test_decode_bytes : (decodeBytes [0x20#8, 0xBE#8, 0xEF#8, 0x92#8, 0#8, 0#8, 0#8]).toOption =
    some (.decGroup 0xBE#8 0xEF#8 0x92#8) := by decide
theorem test_decode_bytes_badLength : (decodeBytes [0x20#8, 0xBE#8, 0xEF#8]).toOption = none := by decide

/-! Rejected words, with the verdict's name (95_test_vectors.md V9). -/

theorem test_reject_zero_word : rejection (.opw 0x00000000000000#56) = some .unknownSelect := by decide
theorem test_reject_ones_word : rejection (.opw 0xFFFFFFFFFFFFFF#56) = some .unknownSelect := by decide
theorem test_reject_selects : [0x03#8, 0x0F#8, 0x12#8, 0x1F#8, 0x22#8, 0xFF#8].all
    (fun k => rejection (.opw (opWordOf k 0#8 0#8 0#8 0#8 0#8 0#8)) == some .unknownSelect) = true := by decide
theorem test_reject_pads : [0x01000000000001#56, 0x02BE00000000FF#56, 0x10010400000001#56, 0x11001000000100#56, 0x200001B0010000#56].all
    (fun w => rejection (.opw w) == some .nonZeroPad) = true := by decide
theorem test_reject_command : rejection (.wire2 0x0105#16) = some .unknownOpcode := by decide

/-! ### One step of each operation (95_test_vectors.md V4 to V9, P1 to P6) -/

theorem test_crcInit_from_0x92 : (runWord { State.reset with crc := 0x92#8, err := 1#2 } 56 0x01000000000000).map
    (fun s => (s.crc, s.err)) = some (0xFF#8, 0#2) := by decide
theorem test_crcByte_BE : (runWord State.reset 56 0x02BE0000000000).map (·.crc) = some 0x0C#8 := by decide
theorem test_crcByte_fixed_point : (runWord { State.reset with crc := 0xEF#8 } 56 0x02000000000000).map (·.crc) = some 0xEF#8 := by
  decide
theorem test_encCmd_empties_the_tail :
    ((runWord State.reset 56 0x11460000020000).bind fun s => runWord s 56 0x10010400000000).map
      (fun s => (s.txbuf, s.txlen, status s)) =
      some (#v[some 0x01#8, some 0x04#8, none, none, none], 2#3, 0x20#8) := by decide
theorem test_encCmdP_interval : (runWord State.reset 56 0x11460000020000).map (fun s => (txFrame s, s.crc, status s)) =
    some ([0x46#8, 0x00#8, 0x00#8, 0x02#8, 0xE3#8], 0xFF#8, 0x50#8) := by decide
theorem test_decGroup_swapped_pair : (runWord State.reset 56 0x20EF006E000000).map (fun s => (s.data, s.dataValid, s.err)) =
    some (some 0xEF00#16, true, 0#2) := by decide
theorem test_decGroup_failure_discards :
    ((runWord State.reset 56 0x20000081000000).bind fun s => runWord s 56 0x200001B1000000).map
      (fun s => (s.data, s.dataValid, status s)) = some (none, false, 0x01#8) := by decide
theorem test_decFloat_keeps_a_nan : (runWord State.reset 56 0x217FC0640001B0).map (fun s => (s.fword, s.fwordValid, s.data)) =
    some (some 0x7FC00001#32, true, none) := by decide
theorem test_decFloat_second_group_bad :
    ((runWord State.reset 56 0x2143DBCB851FB8).bind fun s => runWord s 56 0x2143DBCB851FB9).map
      (fun s => (s.fword, s.fwordValid, status s)) = some (none, false, 0x01#8) := by decide
theorem test_illegal_changes_only_err :
    (runWord { State.reset with fword := some 0x43DB851F#32, fwordValid := true } 56 0x00000000000000).map
      (fun s => (s.fword, s.crc, status s)) = some (some 0x43DB851F#32, 0xFF#8, 0x0A#8) := by decide
theorem test_startContinuous_frame : (runWord State.reset 40 0x0010000081).map txFrame =
    some [0x00#8, 0x10#8, 0x00#8, 0x00#8, 0x81#8] := by decide
theorem test_startContinuous_zero_checksum_byte : (runWord State.reset 40 0x0010000000).map txFrame =
    some [0x00#8, 0x10#8, 0x00#8, 0x00#8, 0x81#8] := by decide
theorem test_stopContinuous_frame : (runWord State.reset 16 0x0104).map txFrame = some [0x01#8, 0x04#8] := by decide
theorem test_setInterval_frame : (runWord State.reset 40 0x4600070896).map txFrame =
    some [0x46#8, 0x00#8, 0x07#8, 0x08#8, 0x96#8] := by decide
theorem test_getDataReady_frame : (runWord State.reset 16 0x0202).map txFrame = some [0x02#8, 0x02#8] := by decide
theorem test_readMeasurement_frame : (runWord State.reset 16 0x0300).map txFrame = some [0x03#8, 0x00#8] := by decide
theorem test_setAsc_frame : (runWord State.reset 40 0x53060001B0).map txFrame =
    some [0x53#8, 0x06#8, 0x00#8, 0x01#8, 0xB0#8] := by decide
theorem test_setFrc_frame : (runWord State.reset 40 0x520401904C).map txFrame =
    some [0x52#8, 0x04#8, 0x01#8, 0x90#8, 0x4C#8] := by decide
theorem test_setTempOffset_frame : (runWord State.reset 40 0x540300961E).map txFrame =
    some [0x54#8, 0x03#8, 0x00#8, 0x96#8, 0x1E#8] := by decide
theorem test_setAltitude_frame : (runWord State.reset 40 0x510201F433).map txFrame =
    some [0x51#8, 0x02#8, 0x01#8, 0xF4#8, 0x33#8] := by decide
theorem test_softReset_resets_nothing_here : (runWord { State.reset with crc := 0x0C#8 } 16 0xD304).map
    (fun s => (txFrame s, s.crc)) = some ([0xD3#8, 0x04#8], 0x0C#8) := by decide
theorem test_getFirmwareVersion_frame : (runWord State.reset 16 0xD100).map txFrame = some [0xD1#8, 0x00#8] := by decide

/-! ### The checksum and the other functions (95_test_vectors.md V1 to V3, 40_checksum_engine.md R59) -/

theorem test_crcBit_top_bit : crcBit 0x82#8 = 0x35#8 := by decide
theorem test_crc8_catalogue : crc8 [0x31#8, 0x32#8, 0x33#8, 0x34#8, 0x35#8, 0x36#8, 0x37#8, 0x38#8, 0x39#8] = 0xF7#8 := by decide
theorem test_crcTable_length : crcTable.length = 256 := by decide
theorem test_crcTable_last : crcByteTable 0xFF#8 0x00#8 = 0xAC#8 := by decide
theorem test_crcByteXor_spot : crcByteXor 0x0C#8 0xEF#8 = 0x92#8 := by decide
theorem test_four_bit_error_unseen : groupWordOk 0xBEEF92#24 = true ∧ groupWordOk (0xBEEF92#24 ^^^ 0x000131#24) = true := by decide
theorem test_readFloat_example : readFloat 0x43DB851F#32 = .finite false 14386463 (-15) := by decide
theorem test_readFloat_minus_one : readFloat 0xBF800000#32 = .finite true 8388608 (-23) := by decide

/-! ### Host events and ports (70_reset_and_hazards.md R122, R126, R134) -/

theorem test_reset_overrides : (after (step { State.reset with
      crc := 0x0C#8, data := some 1#16, dataValid := true, pending := [.reset (some 0x02BE0000000000#56)] })) = some State.reset := by
  decide
theorem test_read_valid_latch : (after (step { State.reset with data := some 1#16, dataValid := true, pending := [.read .data] })).map
    (fun s => (s.data, s.pending)) = some (some 1#16, []) := by decide
theorem test_read_empty_latch_faults : faultOf (step { State.reset with pending := [.read .fword] }) = some (.emptyLatch .fword) := by
  decide
theorem test_second_host_refused : refusalOf (step { State.reset with pending := [.secondHost (.wire2 0x0104#16)] }) =
    some .secondHost := by decide
theorem test_unknown_command_refused : refusalOf (step (State.reset.withFetchWord 16 0x0105)) = some .unknownCommand := by decide
theorem test_idle : after (step State.reset) = some State.reset := by decide

/-! ### The driver layer (45_wire_commands.md R103 to R108; 95_test_vectors.md S6, P3) -/

/-- An open session over a block just reset, with the given answers of the transport. -/
def openDriver (replies : List BusReply) : DriverState :=
  { block := State.reset, session := .opened Config.defaultAddress, replies := replies, calls := [] }

theorem test_read_measurement :
    (readMeasurementCall (openDriver [.done, .bytes [0x43#8, 0xDB#8, 0xCB#8, 0x85#8, 0x1F#8, 0xB8#8, 0x41#8, 0xC8#8, 0x02#8, 0x00#8,
      0x00#8, 0x81#8, 0x42#8, 0x48#8, 0x55#8, 0x00#8, 0x00#8, 0x81#8]])).1 =
      .ok ⟨0x43DB851F#32, 0x41C80000#32, 0x42480000#32⟩ := by decide
theorem test_data_ready_both_rules :
    [ReadyRule.lowByte, .word].all (fun r =>
      (dataReadyCall r (openDriver [.done, .bytes [0x00#8, 0x01#8, 0xB0#8]])).1 = .ok true ∧
      (dataReadyCall r (openDriver [.done, .bytes [0x00#8, 0x00#8, 0x81#8]])).1 = .ok false ∧
      (dataReadyCall r (openDriver [.done, .bytes [0x00#8, 0x01#8, 0xB1#8]])).1 = .failed .checksumMismatch) = true := by decide
theorem test_transport_error : (writeCommand .stopContinuous (openDriver [.failed])).1 = .failed .transportError := by decide
theorem test_firmware_unchecked :
    (firmwareCall false (openDriver [.done, .bytes [0x03#8, 0x42#8, 0x00#8]])).1 = .ok 0x0342#16 := by decide
theorem test_failed_probe_is_fatal :
    ((openSession true 0x61#7 { openDriver [.failed] with session := .uninitialized }).1,
     (openSession true 0x61#7 { openDriver [.failed] with session := .uninitialized }).2.session) =
      (.failed .transportError, .uninitialized) := by decide
theorem test_closed_session_stays_closed :
    (openSession true 0x61#7 { openDriver [.done, .bytes [0x03#8, 0x42#8, 0xF3#8]] with session := .closed }).2.session = .closed := by
  decide
theorem test_close_after_failed_stop : (closeSession (openDriver [.failed])).2.session = .closed := by decide
theorem test_temperature_truncates : temperatureParameter (1239 / 1000) = 123#16 := by decide +kernel
theorem test_temperature_fits_at_the_top : temperatureParameter (65535 / 100) = 65535#16 := by decide +kernel

/-! ### Witnesses: for every statement with hypotheses, a concrete case that meets them all together -/

/-- A good state that holds something in every latch. -/
def fullState : State :=
  { crc := 0x0C#8
    txbuf := #v[some 0x46#8, some 0x00#8, some 0x00#8, some 0x02#8, some 0xE3#8]
    txlen := 5#3
    data := some 0x0001#16
    dataValid := true
    fword := some 0x43DB851F#32
    fwordValid := true
    err := 0b00#2
    pending := [] }

/-- For every statement that assumes the invariant, at each value of the length. -/
theorem witness_inv : State.reset.Inv ∧ fullState.Inv ∧
    State.Inv { fullState with txbuf := #v[some 0x01#8, some 0x04#8, none, none, none], txlen := 2#3 } := by decide
/-- The invariant excludes a state whose valid bit disagrees with its latch. -/
theorem witness_inv_excludes : ¬ State.Inv { State.reset with dataValid := true } ∧ ¬ State.Inv { State.reset with err := 0b11#2 } ∧
    ¬ State.Inv { fullState with txbuf := #v[some 0x46#8, some 0x00#8, some 0x00#8, some 0x02#8, some 0xE2#8] } := by decide
/-- `MaskAndMatchSelectTheOperation` and `IllegalWordSetsErrAndNothingElse`: a word that matches no row (unknown select, and a pad). -/
theorem witness_no_row (w : OpWord) (h : w ∈ [0x00000000000000#56, 0x02BE00000000FF#56]) :
    w &&& 0xFFFFFFFFFFFFFF#56 ≠ 0x01000000000000#56 ∧ w &&& 0xFF00FFFFFFFFFF#56 ≠ 0x02000000000000#56 ∧
    w &&& 0xFF0000FFFFFFFF#56 ≠ 0x10000000000000#56 ∧ w &&& 0xFF00000000FFFF#56 ≠ 0x11000000000000#56 ∧
    w &&& 0xFF000000FFFFFF#56 ≠ 0x20000000000000#56 ∧ w &&& 0xFF000000000000#56 ≠ 0x21000000000000#56 := by
  simp only [List.mem_cons, List.not_mem_nil, or_false] at h
  obtain rfl | rfl := h <;> decide
/-- `IllegalWordSetsErrAndNothingElse`: select codes at the ends of each range. -/
theorem witness_unknown_selects : [0x00#8, 0x03#8, 0x0F#8, 0x12#8, 0x1F#8, 0x22#8, 0xFF#8].all
    (fun k => (sel (opWordOf k 0#8 0#8 0#8 0#8 0#8 0#8)).toNat == k.toNat) = true := by decide
/-- `StepRunsTheDecodedInstruction`. -/
theorem witness_step_runs : (presentNext (.opw 0x02BE0000000000#56) fullState).pending = .present (.opw 0x02BE0000000000#56) :: [] ∧
    decoded (.opw 0x02BE0000000000#56) = some (.crcByte 0xBE#8) := by decide
/-- `PlacedWordRunsNext`, at each width. -/
theorem witness_placed_word : decodeTableWord 56 0x01000000000000 = some .crcInit ∧
    decodeTableWord 40 0x0010000000 = some (.startContinuous 0#16 0#8) ∧ decodeTableWord 16 0x0104 = some .stopContinuous := by decide
/-- `NothingPendingNothingDone`. -/
theorem witness_nothing_pending : fullState.pending = [] := by decide
/-- `SecondHostIsRefused`, `ResetEventOverridesTheOperation`, `ReadEventUsesThePort`: the event stands first. -/
theorem witness_first_event :
    ({ fullState with pending := [.secondHost (.opw 0#56), .read .crc] } : State).pending = .secondHost (.opw 0#56) :: [.read .crc] ∧
    ({ fullState with pending := [.reset none] } : State).pending = .reset none :: [] ∧
    ({ fullState with pending := [.read .status] } : State).pending = .read .status :: [] := by decide
/-- `UnknownCommandFrameIsRefused`: a frame outside and one inside each list. -/
theorem witness_command_frames :
    (0x0105#16) ∉ [0x0104#16, 0x0202#16, 0x0300#16, 0xD304#16, 0xD100#16] ∧
    (0x0010#16) ∉ [0x0104#16, 0x0202#16, 0x0300#16, 0xD304#16, 0xD100#16] ∧
    (0x0104000000#40).extractLsb' 24 16 ∉ [0x0010#16, 0x4600#16, 0x5306#16, 0x5204#16, 0x5403#16, 0x5102#16] ∧
    (0x5102FFFFFF#40).extractLsb' 24 16 ∈ [0x0010#16, 0x4600#16, 0x5306#16, 0x5204#16, 0x5403#16, 0x5102#16] := by decide
/-- `CrcInitRestartsTheAccumulator`, `CrcByteAbsorbsOneByte`: the accumulator at the values of their clauses. -/
theorem witness_accumulator_values : State.reset.crc = 0xFF#8 ∧ fullState.crc = 0x0C#8 := by decide
/-- `DecFloatChecksBothGroupsAndAssembles`, `BytesJoinAndSplitBigEndian`: two groups that both pass. -/
theorem witness_float_groups : crc8 [0x43#8, 0xDB#8] = 0xCB#8 ∧ crc8 [0x85#8, 0x1F#8] = 0xB8#8 := by decide
/-- `DecGroupChecksAndUnpacks`, `DecFloatChecksBothGroupsAndAssembles`: a group that passes, one that does not, two distinct bytes. -/
theorem witness_groups : crc8 [0x00#8, 0x01#8] = 0xB0#8 ∧ crc8 [0x00#8, 0x01#8] ≠ 0xB1#8 ∧ crc8 [0x00#8, 0x00#8] = 0x81#8 ∧
    (0x00#8) ≠ 0xEF#8 := by decide
/-- `LongCommandsBuildTheirFrames`: each command stands in the list. -/
theorem witness_long_commands : (Instr.setAltitude 0x01F4#16 0x33#8, 0x5102#16) ∈
    [(Instr.startContinuous 0x01F4#16 0x33#8, 0x0010#16), (Instr.setAltitude 0x01F4#16 0x33#8, 0x5102#16)] := by decide
/-- `WellFormedCommandLatchesItsOwnWord`: a long and a short command. -/
theorem witness_wf_commands : Instr.wf (.setFrc 0x0190#16 0x4C#8) = true ∧ isOperation (.setFrc 0x0190#16 0x4C#8) = false ∧
    Instr.wf .softReset = true ∧ isOperation .softReset = false := by decide
/-- `ErrTellsTheOutcomeOfThisWord`: a word that decodes and one that does not; `witness_check_fails` has the failing groups. -/
theorem witness_outcomes : decoded (.opw 0x200001B1000000#56) = some (.decGroup 0x00#8 0x01#8 0xB1#8) ∧
    rejection (.opw 0x200001B0010000#56) = some .nonZeroPad := by decide
/-- `ChecksumMismatchEmptiesItsOwnLatch`, `EmptyLatchFaultsTheHost`: a failing group, and a pair whose second group fails. -/
theorem witness_check_fails : checkFails (.decGroup 0x00#8 0x01#8 0xB1#8) ∧
    checkFails (.decFloat 0x43#8 0xDB#8 0xCB#8 0x85#8 0x1F#8 0xB9#8) :=
  ⟨.inl ⟨_, _, _, rfl, by decide⟩, .inr ⟨_, _, _, _, _, _, rfl, .inr (by decide)⟩⟩
/-- `ChecksumMismatchEmptiesItsOwnLatch`, second half: an operation that does not fail. -/
theorem witness_check_passes : ¬ checkFails .crcInit := by
  rintro (⟨_, _, _, h, _⟩ | ⟨_, _, _, _, _, _, h, _⟩) <;> cases h
/-- `EveryStepKeepsTheInvariant`: a good state whose step answers a next state. -/
theorem witness_step_keeps : State.Inv { fullState with pending := [.present (.opw 0x200001B1000000#56)] } ∧
    (after (step { fullState with pending := [.present (.opw 0x200001B1000000#56)] })).isSome = true := by decide
/-- `RegistersSurviveOtherOperations`: words that leave each register alone. -/
theorem witness_write_sets : [0x200001B0000000#56, 0#56].all (fun w => !wordWrites .accumulator w && !wordWrites .frame w &&
    !wordWrites .float w) = true ∧ [0x02BE0000000000#56].all (fun w => !wordWrites .datum w) = true := by decide
/-- `CodecIgnoresTheAccumulator`, `ResultsDependOnTheWordAlone`: an operation that is no checksum operation. -/
theorem witness_codec : writeSet (.encCmd 0x0104#16) ≠ .accumulator ∧ ∀ b, Instr.crcInit ≠ .crcByte b :=
  ⟨by decide, fun _ h => by cases h⟩
/-- `ReadsHaveNoEffectAndWordsAreIdempotent`: a port that carries a value, and a word that is no `CRC_BYTE` word. -/
theorem witness_reads : (portValue fullState (.txbuf 4)).isSome = true ∧ (portValue fullState .txbufAll).isSome = true ∧
    byteFed 0x01000000000000#56 = none := by decide
/-- `PackedPortNeedsALongFrame`: a good state with a long frame, whose packed port carries a value. -/
theorem witness_packed_port : fullState.Inv ∧ (portValue fullState .txbufAll).isSome = true ∧ fullState.txlen = 5#3 := by decide
/-- `EmptyLatchFaultsTheHost`: ports that carry nothing, at the boundary of the length. -/
theorem witness_empty_ports : (portValue State.reset .data).isSome = false ∧
    (portValue { State.reset with txbuf := #v[some 1#8, some 2#8, none, none, none], txlen := 2#3 } (.txbuf 2)).isSome = false ∧
    (portValue { State.reset with txbuf := #v[some 1#8, some 2#8, none, none, none], txlen := 2#3 } (.txbuf 1)).isSome = true := by decide
/-- `AccumulatorHoldsTheChecksumOfTheBytesFed`: a list with bytes, a codec operation and an illegal word, and no `CRC_INIT`. -/
theorem witness_words_without_init :
    [0x02BE0000000000#56, 0x2143DBCB851FB9#56, 0#56, 0x02EF0000000000#56].all (fun w => decoded (.opw w) != some .crcInit) = true ∧
    bytesFed [0x02BE0000000000#56, 0x2143DBCB851FB9#56, 0#56, 0x02EF0000000000#56] = [0xBE#8, 0xEF#8] := by decide
/-- `BytesWithoutCrcInitContinue`, `ChecksumIsLinearUpToItsStart`: a list that is not empty, two of equal length. -/
theorem witness_lists : [0xBE#8, 0xEF#8] ≠ [] ∧ [0xBE#8, 0xEF#8].length = [0x00#8, 0x01#8].length := by decide
/-- The detection statements: a valid group, distinct positions, a burst at the last place it fits, an odd pattern, a stuck byte. -/
theorem witness_detection : groupWordOk 0xBEEF92#24 = true ∧ (0 : Fin 24) ≠ 23 ∧ (0 : Fin 24) ≠ 12 ∧ (12 : Fin 24) ≠ 23 ∧
    (0xFF#8) ≠ 0#8 ∧ 16 ≤ 16 ∧ oddFlips 0x000007#24 = true ∧ oddFlips 0x000131#24 = false := by decide
/-- `DecFloatAgreesWithTwoDecGroups`: a pair that passes, so that the valid bit is 1. -/
theorem witness_pair : (runWord State.reset 56 0x2143DBCB851FB8).map (·.fwordValid) = some true := by decide
/-- `ClosedIsTerminalAndCloseEndsAnOpenSession`: a closed session and an open one. -/
theorem witness_sessions : ({ openDriver [] with session := .closed } : DriverState).session = .closed ∧
    (openDriver []).session = .opened 0x61#7 := by decide

end Sys2Proof.Tests
end

section
/-!
The step on presented words (00_scope.md R10): no operation touches what the host does next, so a run over presented words is their
application in list order.
-/
namespace Sys2Proof.Machine

/-- An error of either kind leaves what the host does next. -/
@[simp] theorem raiseError_pending (e : BlockError) (s : State) : (raiseError e s).pending = s.pending := by
  cases e with
  | checksumMismatch l => cases l <;> rfl
  | illegalOperation => rfl

/-- Every instruction answers a next state and leaves the host's list (70_reset_and_hazards.md R131). -/
theorem exec_next_pending (i : Instr) (s : State) : ∃ t, exec i s = .next t ∧ t.pending = s.pending := by
  obtain ⟨v, h⟩ | ⟨opc, h⟩ | ⟨opc, par, h⟩ | ⟨v, h⟩ | ⟨v, h⟩ | ⟨l, h⟩ := exec_cases i s
  all_goals exact ⟨_, h, by simp⟩

/-- Every operation word, legal or not, answers a next state and leaves the host's list. -/
theorem acceptOpWord_next_pending (w : OpWord) (s : State) :
    ∃ t, acceptOpWord w s = .next t ∧ t.pending = s.pending := by
  obtain ⟨i, -, h⟩ | ⟨_, -, h⟩ := acceptOpWord_cases w s
  · exact h ▸ exec_next_pending i s
  · exact ⟨_, h, raiseError_pending _ s⟩

/-- The words that follow a completed one go on from the state it left. -/
theorem acceptAll_cons {w : OpWord} {s t : State} (h : acceptOpWord w s = .next t) (ws : List OpWord) :
    acceptAll (w :: ws) s = acceptAll ws t := by
  rw [acceptAll, h, andThen_next]

/-- The first step of a run over presented words performs the first word and leaves the others to come. -/
theorem run_presentations_cons {w : OpWord} {s t : State} (h : acceptOpWord w s = .next t) (ws : List OpWord)
    (rest : List HostEvent) :
    Host.Core.run Sys2Proof.core (w :: ws).length { s with pending := presentations (w :: ws) ++ rest } =
      Host.Core.run Sys2Proof.core ws.length { t with pending := presentations ws ++ rest } :=
  run_succ ((step_presentations w ws s rest).trans (acceptOpWord_pending h _)) ws.length

/-- The table bits that decode are those of a word of one of the three formats, and that word decodes alike. -/
theorem decodeTableWord_eq_some {nbits w : Nat} {i : Instr} (h : decodeTableWord nbits w = some i) :
    ∃ x, wordOfBits nbits w = some x ∧ decode x = .ok i := by
  unfold decodeTableWord at h
  cases hx : wordOfBits nbits w with
  | none => simp [hx] at h
  | some x =>
    cases hd : decode x with
    | error e => simp [hx, hd, Except.toOption] at h
    | ok j => exact ⟨x, rfl, by simpa [hx, hd, Except.toOption] using h⟩

/-- Placing the bits of a word is presenting that word next. -/
theorem withFetchWord_of_wordOfBits {nbits w : Nat} {x : Word} (h : wordOfBits nbits w = some x) (s : State) :
    s.withFetchWord nbits w = presentNext x s := by
  simp [State.withFetchWord, h]

/-- Settles O38, by induction on the list of words: each step performs one word, whatever stands behind it. -/
theorem runAppliesTheWordsInOrder : Obligations.RunAppliesTheWordsInOrder := by
  intro ws
  induction ws with
  | nil => exact fun s rest => ⟨_, rfl, rfl, run_zero _⟩
  | cons w ws ih =>
    intro s rest
    obtain ⟨t, ht, hpending⟩ := acceptOpWord_next_pending w { s with pending := rest }
    obtain ⟨u, happly, hrest, hrun⟩ := ih t rest
    have hsame : { t with pending := rest } = t := by rw [← show t.pending = rest from hpending]
    exact ⟨u, (acceptAll_cons ht ws).trans (hsame ▸ happly), hrest, (run_presentations_cons ht ws rest).trans hrun⟩

/-- Settles O7: a step takes the presented word, and a word that decodes runs its instruction. -/
theorem stepRunsTheDecodedInstruction : Obligations.StepRunsTheDecodedInstruction := by
  intro s w rest i hpending hdecode
  calc step s = accept (.present w) { s with pending := rest } := step_cons hpending
    _ = exec i { s with pending := rest } := acceptWord_ok hdecode _

/-- Settles O8: the placed bits are a word presented next, and the step accepts it. -/
theorem placedWordRunsNext : Obligations.PlacedWordRunsNext := by
  intro s nbits w i h
  obtain ⟨x, hx, hdecode⟩ := decodeTableWord_eq_some h
  calc step (s.withFetchWord nbits w) = step (presentNext x s) := by rw [withFetchWord_of_wordOfBits hx]
    _ = acceptWord x s := step_presentNext x s
    _ = exec i s := acceptWord_ok hdecode s

end Sys2Proof.Machine
end

section
/-!
The state of the block (10_state.md R11 to R17, R24, R25): what each instruction does, read off the instruction alone; which registers
it leaves; the invariant; and the two derived ports, `STATUS` and the packed frame.
-/
namespace Sys2Proof.Machine

/-! ### What an instruction does -/

theorem not_groupOk {d0 d1 c : Byte} : groupOk d0 d1 c = false ↔ crc8 [d0, d1] ≠ c := by
  simp [groupOk]

theorem checkFails_decGroup {d0 d1 c : Byte} : checkFails (.decGroup d0 d1 c) ↔ groupOk d0 d1 c = false := by
  simp [checkFails, not_groupOk]

theorem checkFails_decFloat {a0 a1 ca b0 b1 cb : Byte} :
    checkFails (.decFloat a0 a1 ca b0 b1 cb) ↔ (groupOk a0 a1 ca && groupOk b0 b1 cb) = false := by
  rw [Bool.and_eq_false_iff, not_groupOk, not_groupOk]
  simp [checkFails]

/-- Only the two decode operations can fail a check. -/
theorem writeSet_of_checkFails {i : Instr} (h : checkFails i) : writeSet i = .datum ∨ writeSet i = .float := by
  obtain ⟨d0, d1, c, rfl, -⟩ | ⟨a0, a1, ca, b0, b1, cb, rfl, -⟩ := h
  · exact .inl rfl
  · exact .inr rfl

/-- What an instruction does in every state, by its write set and, for a decode, by the outcome of its check: `exec_cases` with the
values it latches fixed by the instruction. Only the checksum operations latch a value that depends on the state. -/
inductive Effect (i : Instr) : Prop
  | accumulator (hset : writeSet i = .accumulator) (h : ∀ s, ∃ v, exec i s = .next (succeed (writeCrc v s)))
  | shortFrame (opc : Half) (hset : writeSet i = .frame) (h : ∀ s, exec i s = .next (succeed (latchShortFrame opc s)))
  | longFrame (opc par : Half) (hset : writeSet i = .frame) (h : ∀ s, exec i s = .next (succeed (latchLongFrame opc par s)))
  | datum (v : Half) (hset : writeSet i = .datum) (hpass : ¬ checkFails i)
      (h : ∀ s, exec i s = .next (succeed (latchData v s)))
  | float (v : FloatWord) (hset : writeSet i = .float) (hpass : ¬ checkFails i)
      (h : ∀ s, exec i s = .next (succeed (latchFword v s)))
  | noDatum (hset : writeSet i = .datum) (hfail : checkFails i)
      (h : ∀ s, exec i s = .next (raiseError (.checksumMismatch .data) s))
  | noFloat (hset : writeSet i = .float) (hfail : checkFails i)
      (h : ∀ s, exec i s = .next (raiseError (.checksumMismatch .fword) s))

theorem exec_effect (i : Instr) : Effect i := by
  cases i with
  | crcInit => exact .accumulator rfl fun _ => ⟨_, rfl⟩
  | crcByte b => exact .accumulator rfl fun _ => ⟨_, rfl⟩
  | decGroup d0 d1 c =>
    cases hg : groupOk d0 d1 c with
    | true => exact .datum (be16 d0 d1) rfl (by simp [checkFails_decGroup, hg]) fun s => by simp [exec, execDecGroup, hg]
    | false => exact .noDatum rfl (checkFails_decGroup.2 hg) fun s => by simp [exec, execDecGroup, hg]
  | decFloat a0 a1 ca b0 b1 cb =>
    cases hg : groupOk a0 a1 ca && groupOk b0 b1 cb with
    | true =>
      exact .float (be32 a0 a1 b0 b1) rfl (by rw [checkFails_decFloat, hg]; decide) fun s => by
        rw [exec, execDecFloat, hg]; rfl
    | false => exact .noFloat rfl (checkFails_decFloat.2 hg) fun s => by rw [exec, execDecFloat, hg]; rfl
  | encCmd | stopContinuous | getDataReady | readMeasurement | softReset | getFirmwareVersion =>
    exact .shortFrame _ rfl fun _ => rfl
  | encCmdP | startContinuous | setInterval | setAsc | setFrc | setTempOffset | setAltitude =>
    exact .longFrame _ _ rfl fun _ => rfl

/-- An instruction whose check does not fail ends with the outcome `OK`. -/
theorem exec_of_not_checkFails {i : Instr} (hpass : ¬ checkFails i) (s : State) : ∃ u, exec i s = .next (succeed u) := by
  cases exec_effect i with
  | accumulator _ h =>
    obtain ⟨v, hv⟩ := h s
    exact ⟨_, hv⟩
  | shortFrame _ _ h | longFrame _ _ _ h | datum _ _ _ h | float _ _ _ h => exact ⟨_, h s⟩
  | noDatum _ hfail | noFloat _ hfail => exact absurd hfail hpass

/-- An instruction whose check fails raises `ChecksumMismatch` for the latch it would have written. -/
theorem exec_of_checkFails {i : Instr} (hfail : checkFails i) (s : State) :
    ∃ l, exec i s = .next (raiseError (.checksumMismatch l) s) ∧
      ((writeSet i = .datum ∧ l = .data) ∨ (writeSet i = .float ∧ l = .fword)) := by
  cases exec_effect i with
  | accumulator hset | shortFrame _ hset | longFrame _ _ hset => simpa [hset] using writeSet_of_checkFails hfail
  | datum _ _ hpass | float _ _ hpass => exact absurd hfail hpass
  | noDatum hset _ h => exact ⟨.data, h s, .inl ⟨hset, rfl⟩⟩
  | noFloat hset _ h => exact ⟨.fword, h s, .inr ⟨hset, rfl⟩⟩

@[simp] theorem raiseError_checksumMismatch_err (l : DecodeLatch) (s : State) :
    (raiseError (.checksumMismatch l) s).err = errChecksumMismatch := by
  cases l <;> rfl

/-- The outcome code of an instruction is `0b01` or `0b00` by whether its check fails, and all that a failed check changes
(10_state.md R16, 60_exceptions.md R110). -/
theorem exec_outcome (i : Instr) (s : State) :
    ∃ t, exec i s = .next t ∧ (t.err = 0b01#2 ↔ checkFails i) ∧ (t.err = 0b00#2 ↔ ¬ checkFails i) ∧
      (checkFails i →
        (writeSet i = .datum ∧ t = { s with data := none, dataValid := false, err := 0b01#2 }) ∨
        (writeSet i = .float ∧ t = { s with fword := none, fwordValid := false, err := 0b01#2 })) := by
  by_cases hcheck : checkFails i
  · obtain ⟨l, hexec, hlatch⟩ := exec_of_checkFails hcheck s
    refine ⟨_, hexec, by simp [hcheck, errChecksumMismatch], by simp [hcheck, errChecksumMismatch], fun _ => ?_⟩
    obtain ⟨hset, rfl⟩ | ⟨hset, rfl⟩ := hlatch
    · exact .inl ⟨hset, rfl⟩
    · exact .inr ⟨hset, rfl⟩
  · obtain ⟨u, hexec⟩ := exec_of_not_checkFails hcheck s
    exact ⟨_, hexec, by simp [hcheck, errOk], by simp [hcheck, errOk], fun hfail => absurd hfail hcheck⟩

/-- Settles O21: an illegal word raises `IllegalOperation`, and a word that decodes has the outcome of its instruction. -/
theorem errTellsTheOutcomeOfThisWord : Obligations.ErrTellsTheOutcomeOfThisWord := by
  intro w s
  obtain ⟨i, hdecode, hrun⟩ | ⟨e, hdecode, hrun⟩ := acceptOpWord_cases w s
  · obtain ⟨t, hexec, houtcome⟩ := exec_outcome i s
    refine ⟨t, hrun.trans hexec, by simp [hdecode], fun j hj => ?_⟩
    obtain rfl : i = j := by simpa [hdecode] using hj
    exact houtcome
  · exact ⟨_, hrun, fun _ _ => rfl, by simp [hdecode]⟩

/-! ### Which registers an instruction leaves -/

/-- The registers of a write set hold in `t` what they hold in `s`. -/
def SameRegisters (s t : State) : WriteSet → Prop
  | .accumulator => t.crc = s.crc
  | .frame => t.txbuf = s.txbuf ∧ t.txlen = s.txlen
  | .datum => t.data = s.data ∧ t.dataValid = s.dataValid
  | .float => t.fword = s.fword ∧ t.fwordValid = s.fwordValid

theorem SameRegisters.refl (s : State) (r : WriteSet) : SameRegisters s s r := by
  cases r <;> simp [SameRegisters]

theorem SameRegisters.trans {s t u : State} {r : WriteSet} (hst : SameRegisters s t r) (htu : SameRegisters t u r) :
    SameRegisters s u r := by
  cases r with
  | accumulator => exact Eq.trans htu hst
  | frame | datum | float => exact ⟨htu.1.trans hst.1, htu.2.trans hst.2⟩

/-- An instruction leaves every register outside its write set (20_memory.md R35). -/
theorem exec_sameRegisters (i : Instr) (s : State) :
    ∃ t, exec i s = .next t ∧ ∀ r, writeSet i ≠ r → SameRegisters s t r := by
  cases exec_effect i with
  | accumulator hset h =>
    obtain ⟨v, hv⟩ := h s
    exact ⟨_, hv, fun r hr => by cases r <;> simp_all [SameRegisters]⟩
  | shortFrame _ hset h | longFrame _ _ hset h | datum _ hset _ h | float _ hset _ h | noDatum hset _ h | noFloat hset _ h =>
    exact ⟨_, h s, fun r hr => by cases r <;> simp_all [SameRegisters]⟩

/-- An operation word leaves every register that its operation does not write. -/
theorem acceptOpWord_sameRegisters (w : OpWord) (s : State) :
    ∃ t, acceptOpWord w s = .next t ∧ ∀ r, wordWrites r w = false → SameRegisters s t r := by
  obtain ⟨i, hdecode, hrun⟩ | ⟨e, -, hrun⟩ := acceptOpWord_cases w s
  · obtain ⟨t, hexec, hsame⟩ := exec_sameRegisters i s
    exact ⟨t, hrun.trans hexec, fun r hr => hsame r (by simpa [wordWrites, hdecode] using hr)⟩
  · exact ⟨_, hrun, fun r _ => by cases r <;> simp [SameRegisters]⟩

/-- A run of operation words leaves every register that none of them writes. -/
theorem acceptAll_sameRegisters (ws : List OpWord) (s : State) :
    ∃ t, acceptAll ws s = .next t ∧ ∀ r, (∀ w ∈ ws, wordWrites r w = false) → SameRegisters s t r := by
  induction ws generalizing s with
  | nil => exact ⟨s, rfl, fun r _ => .refl s r⟩
  | cons w ws ih =>
    obtain ⟨t, ht, hfirst⟩ := acceptOpWord_sameRegisters w s
    obtain ⟨u, hu, hrest⟩ := ih t
    refine ⟨u, (acceptAll_cons ht ws).trans hu, fun r hr => ?_⟩
    obtain ⟨hw, hws⟩ := List.forall_mem_cons.1 hr
    exact (hfirst r hw).trans (hrest r hws)

/-- Settles O31: the frame of a run, at each of the four write sets. -/
theorem registersSurviveOtherOperations : Obligations.RegistersSurviveOtherOperations := by
  intro ws s
  obtain ⟨t, ht, hsame⟩ := acceptAll_sameRegisters ws s
  exact ⟨t, ht, hsame .accumulator, hsame .frame, hsame .datum, hsame .float⟩

/-- Settles O32: what a codec operation latches is fixed by the instruction, and no latch is the accumulator. -/
theorem codecIgnoresTheAccumulator : Obligations.CodecIgnoresTheAccumulator := by
  intro i s c hcodec
  cases exec_effect i with
  | accumulator hset => exact absurd hset hcodec
  | shortFrame _ _ h | longFrame _ _ _ h | datum _ _ _ h | float _ _ _ h | noDatum _ _ h | noFloat _ _ h =>
    exact ⟨_, h s, h _, rfl⟩

/-! ### The invariant: each named operation keeps it -/

theorem State.Inv.withPending {s : State} (h : s.Inv) (l : List HostEvent) : State.Inv { s with pending := l } := h

theorem State.Inv.writeCrc {s : State} (h : s.Inv) (v : Byte) : (writeCrc v s).Inv := h

/-- Any code but the reserved one may go to `err`. -/
theorem State.Inv.writeErr {s : State} (h : s.Inv) {e : BitVec 2} (he : e ≠ errReserved) : (writeErr e s).Inv := by
  obtain ⟨hlength, hframe, hchecksum, hvalid, -⟩ := h
  exact ⟨hlength, hframe, hchecksum, hvalid, he⟩

theorem State.Inv.succeed {s : State} (h : s.Inv) : (succeed s).Inv := h.writeErr (by decide)

/-- A short frame has the length 2 and values in its first two bytes. -/
theorem State.Inv.latchShortFrame {s : State} (h : s.Inv) (opc : Half) : (latchShortFrame opc s).Inv := by
  obtain ⟨-, -, -, hvalid, herr⟩ := h
  refine ⟨.inr (.inl rfl), fun i => ?_, fun hlong => absurd hlong (by simp), hvalid, herr⟩
  fin_cases i <;> rfl

/-- A long frame has the length 5, values in all its bytes, and the checksum of bytes 2 and 3 in byte 4. -/
theorem State.Inv.latchLongFrame {s : State} (h : s.Inv) (opc par : Half) : (latchLongFrame opc par s).Inv := by
  obtain ⟨-, -, -, hvalid, herr⟩ := h
  refine ⟨.inr (.inr rfl), fun i => ?_, fun _ => rfl, hvalid, herr⟩
  fin_cases i <;> rfl

theorem State.Inv.latchData {s : State} (h : s.Inv) (v : Half) : (latchData v s).Inv := by
  obtain ⟨hlength, hframe, hchecksum, ⟨-, hfword⟩, herr⟩ := h
  exact ⟨hlength, hframe, hchecksum, ⟨rfl, hfword⟩, herr⟩

theorem State.Inv.latchFword {s : State} (h : s.Inv) (v : FloatWord) : (latchFword v s).Inv := by
  obtain ⟨hlength, hframe, hchecksum, ⟨hdata, -⟩, herr⟩ := h
  exact ⟨hlength, hframe, hchecksum, ⟨hdata, rfl⟩, herr⟩

theorem State.Inv.emptyDecodeLatch {s : State} (h : s.Inv) (l : DecodeLatch) : (emptyDecodeLatch l s).Inv := by
  obtain ⟨hlength, hframe, hchecksum, ⟨hdata, hfword⟩, herr⟩ := h
  cases l with
  | data => exact ⟨hlength, hframe, hchecksum, ⟨rfl, hfword⟩, herr⟩
  | fword => exact ⟨hlength, hframe, hchecksum, ⟨hdata, rfl⟩, herr⟩

theorem State.Inv.raiseError {s : State} (h : s.Inv) (e : BlockError) : (raiseError e s).Inv := by
  cases e with
  | checksumMismatch l => exact (h.emptyDecodeLatch l).writeErr (by decide)
  | illegalOperation => exact h.writeErr (by decide)

/-- Settles O29: every latch is empty, both valid bits and the length are zero, and `err` is `OK`. -/
theorem resetMeetsTheInvariant : Obligations.ResetMeetsTheInvariant := by
  refine ⟨.inl rfl, fun i => ?_, fun hlong => absurd hlong (by decide), ⟨rfl, rfl⟩, by decide⟩
  fin_cases i <;> rfl

theorem resetBlock_inv (s : State) : (resetBlock s).Inv :=
  State.Inv.withPending resetMeetsTheInvariant s.pending

/-- Every instruction keeps the invariant. -/
theorem State.Inv.exec {s t : State} (h : s.Inv) {i : Instr} (hexec : exec i s = .next t) : t.Inv := by
  obtain ⟨v, he⟩ | ⟨opc, he⟩ | ⟨opc, par, he⟩ | ⟨v, he⟩ | ⟨v, he⟩ | ⟨l, he⟩ := exec_cases i s
  all_goals cases hexec.symm.trans he
  · exact (h.writeCrc v).succeed
  · exact (h.latchShortFrame opc).succeed
  · exact (h.latchLongFrame opc par).succeed
  · exact (h.latchData v).succeed
  · exact (h.latchFword v).succeed
  · exact h.raiseError _

/-- Every host event that answers a next state keeps the invariant. -/
theorem State.Inv.accept {s t : State} (h : s.Inv) {e : HostEvent} (haccept : accept e s = .next t) : t.Inv := by
  obtain ⟨w, i, -, -, hexec⟩ | ⟨w, -, rfl⟩ | ⟨op, -, rfl⟩ | ⟨p, -, rfl⟩ := accept_next haccept
  · exact h.exec hexec
  · exact h.raiseError _
  · exact resetBlock_inv s
  · exact h

/-- Settles O30: a step does nothing or accepts the oldest event, and the invariant does not speak of the host's list. -/
theorem everyStepKeepsTheInvariant : Obligations.EveryStepKeepsTheInvariant := by
  intro s t h hstep
  cases hpending : s.pending with
  | nil => cases (step_nil hpending).symm.trans hstep; exact h
  | cons e rest => exact (h.withPending rest).accept ((step_cons hpending).symm.trans hstep)

/-! ### The derived ports and the reset values -/

theorem statusByte_err (e : BitVec 2) (d f : Bool) (n : BitVec 3) : (statusByte e d f n).extractLsb' 0 2 = e :=
  extract_low (0#1 ++ n ++ BitVec.ofBool f ++ BitVec.ofBool d) e

theorem statusByte_txlen (e : BitVec 2) (d f : Bool) (n : BitVec 3) : (statusByte e d f n).extractLsb' 4 3 = n :=
  (extract_above (k := 2) (0#1 ++ n ++ BitVec.ofBool f ++ BitVec.ofBool d) e).trans <|
    (extract_above (k := 1) (0#1 ++ n ++ BitVec.ofBool f) (BitVec.ofBool d)).trans <|
    (extract_above (k := 0) (0#1 ++ n) (BitVec.ofBool f)).trans <|
    extract_low 0#1 n

/-- The bits above a low part, read through a concatenation. -/
theorem getLsbD_above {v w k : Nat} (x : BitVec v) (y : BitVec w) : (x ++ y).getLsbD (w + k) = x.getLsbD k := by
  simp [BitVec.getLsbD_append]

theorem getLsbD_append_ofBool {v : Nat} (x : BitVec v) (b : Bool) : (x ++ BitVec.ofBool b).getLsbD 0 = b := by
  rw [BitVec.getLsbD_append]; simp

theorem statusByte_dataValid (e : BitVec 2) (d f : Bool) (n : BitVec 3) : (statusByte e d f n).getLsbD 2 = d :=
  (getLsbD_above (k := 0) (0#1 ++ n ++ BitVec.ofBool f ++ BitVec.ofBool d) e).trans <|
    getLsbD_append_ofBool (0#1 ++ n ++ BitVec.ofBool f) d

theorem statusByte_fwordValid (e : BitVec 2) (d f : Bool) (n : BitVec 3) : (statusByte e d f n).getLsbD 3 = f :=
  (getLsbD_above (k := 1) (0#1 ++ n ++ BitVec.ofBool f ++ BitVec.ofBool d) e).trans <|
    (getLsbD_above (k := 0) (0#1 ++ n ++ BitVec.ofBool f) (BitVec.ofBool d)).trans <|
    getLsbD_append_ofBool (0#1 ++ n) f

theorem statusByte_top (e : BitVec 2) (d f : Bool) (n : BitVec 3) : (statusByte e d f n).getLsbD 7 = false :=
  (getLsbD_above (k := 5) (0#1 ++ n ++ BitVec.ofBool f ++ BitVec.ofBool d) e).trans <|
    (getLsbD_above (k := 4) (0#1 ++ n ++ BitVec.ofBool f) (BitVec.ofBool d)).trans <|
    (getLsbD_above (k := 3) (0#1 ++ n) (BitVec.ofBool f)).trans <|
    getLsbD_above (k := 0) 0#1 n

/-- Settles O23: the fields of the byte one by one, and the length the invariant allows. -/
theorem statusShowsEveryFlag : Obligations.StatusShowsEveryFlag := by
  refine ⟨fun s => ?_, fun s hinv => ?_, rfl, fun s => usePort_value rfl⟩
  · exact ⟨statusByte_err .., statusByte_dataValid .., statusByte_fwordValid .., statusByte_txlen .., statusByte_top ..⟩
  · have hfield : (status s).extractLsb' 4 3 = s.txlen := statusByte_txlen ..
    obtain ⟨hlength, -⟩ := hinv
    simpa [hfield] using hlength

/-- The packed port shows byte `i` of the latch at its place, index 0 most significant (10_state.md R25). -/
theorem packedFrame_byte {b : Vector (Option Byte) 5} {v : BitVec 40} (h : packedFrame b = some v) (i : Fin 5) :
    b[i] = some (v.extractLsb' (8 * (4 - i.val)) 8) := by
  unfold packedFrame at h
  split at h
  case h_2 => cases h
  case h_1 b0 b1 b2 b3 b4 h0 h1 h2 h3 h4 =>
    cases h
    match i with
    | 0 =>
      exact h0.trans <| congrArg some <| Eq.symm <|
        (extract_above (k := 24) (b0 ++ b1 ++ b2 ++ b3) b4).trans <|
        (extract_above (k := 16) (b0 ++ b1 ++ b2) b3).trans <|
        (extract_above (k := 8) (b0 ++ b1) b2).trans <| extract_high b0 b1
    | 1 =>
      exact h1.trans <| congrArg some <| Eq.symm <|
        (extract_above (k := 16) (b0 ++ b1 ++ b2 ++ b3) b4).trans <|
        (extract_above (k := 8) (b0 ++ b1 ++ b2) b3).trans <|
        (extract_above (k := 0) (b0 ++ b1) b2).trans <| extract_low b0 b1
    | 2 =>
      exact h2.trans <| congrArg some <| Eq.symm <|
        (extract_above (k := 8) (b0 ++ b1 ++ b2 ++ b3) b4).trans <|
        (extract_above (k := 0) (b0 ++ b1 ++ b2) b3).trans <| extract_low (b0 ++ b1) b2
    | 3 =>
      exact h3.trans <| congrArg some <| Eq.symm <|
        (extract_above (k := 0) (b0 ++ b1 ++ b2 ++ b3) b4).trans <| extract_low (b0 ++ b1 ++ b2) b3
    | 4 => exact h4.trans <| congrArg some <| Eq.symm <| extract_low (b0 ++ b1 ++ b2 ++ b3) b4

/-- Under the invariant all five bytes hold a value exactly when the last one does, which is when a long frame is latched. -/
theorem State.Inv.packedFrame_isSome_iff {s : State} (h : s.Inv) : (packedFrame s.txbuf).isSome ↔ s.txlen = 5#3 := by
  obtain ⟨hlength, hframe, -⟩ := h
  have h0 : s.txbuf[0].isSome = _ := hframe 0
  have h1 : s.txbuf[1].isSome = _ := hframe 1
  have h2 : s.txbuf[2].isSome = _ := hframe 2
  have h3 : s.txbuf[3].isSome = _ := hframe 3
  have h4 : s.txbuf[4].isSome = _ := hframe 4
  rw [packedFrame_isSome, h0, h1, h2, h3, h4]
  obtain hn | hn | hn := hlength <;> simp [hn]

/-- Settles O36: the port carries the latch byte by byte, and under the invariant it carries a value over a long frame only. -/
theorem packedPortNeedsALongFrame : Obligations.PackedPortNeedsALongFrame :=
  fun _ h => ⟨h.packedFrame_isSome_iff, fun _ hv => packedFrame_byte hv⟩

/-- Settles O26: the fields of `State.reset` are the table of 10_state.md R24. -/
theorem resetValuesAreTheTable : Obligations.ResetValuesAreTheTable := by
  refine ⟨rfl, rfl, fun i => ?_, rfl, rfl, rfl, rfl, rfl, rfl⟩
  fin_cases i <;> rfl

end Sys2Proof.Machine
end

section
/-!
Byte order and reading (20_memory.md R27 to R29, R35, R37, R39): a word against its bytes, a 16-bit value and a float word against
theirs; what an operation leaves depends on its word alone, so that performing it again changes nothing; and a read is a use of a port.
-/
namespace Sys2Proof.Machine

/-! ### A word and its bytes -/

/-- The bytes of a word in wire order are read back as that word. -/
@[simp] theorem wordOfBytes_bytesOfWord (w : Word) : wordOfBytes (bytesOfWord w) = some w := by
  cases w with
  | opw w => exact congrArg (fun x => some (Word.opw x)) (opWordOf_fields w)
  | wire2 w => exact congrArg (fun x => some (Word.wire2 x)) (be16_hi8_lo8 w)
  | wire5 w =>
    have hframe : longFrameOf (be16 (hi8 (frameOpcode w)) (lo8 (frameOpcode w)))
        (be16 (hi8 (frameParameter w)) (lo8 (frameParameter w))) (frameChecksum w) = w := by
      rw [be16_hi8_lo8, be16_hi8_lo8, longFrameOf_fields]
    exact congrArg (fun x => some (Word.wire5 x)) hframe

/-- Bytes that make a word decode as that word. -/
theorem decodeBytes_of_wordOfBytes {bs : List Byte} {w : Word} (h : wordOfBytes bs = some w) : decodeBytes bs = decode w := by
  simp [decodeBytes, h]

/-- Settles O6: each format is put together again from its fields, and the decoder first puts the word together. -/
theorem bytesInWireOrderDecodeLikeTheWord : Obligations.BytesInWireOrderDecodeLikeTheWord :=
  ⟨wordOfBytes_bytesOfWord, fun w => decodeBytes_of_wordOfBytes (wordOfBytes_bytesOfWord w)⟩

/-! ### 16-bit values and the float word -/

/-- The first byte counts 256 times as much as the second. -/
theorem be16_toNat (a b : Byte) : (be16 a b).toNat = a.toNat * 256 + b.toNat := by
  have happend : (be16 a b).toNat = a.toNat <<< 8 ||| b.toNat := BitVec.toNat_append a b
  rw [happend, ← Nat.shiftLeft_add_eq_or_of_lt b.isLt, Nat.shiftLeft_eq]

/-- The two bytes of a joined pair are the pair. -/
@[simp] theorem bytesOf_be16 (a b : Byte) : bytesOf (be16 a b) = [a, b] := by
  simp [bytesOf]

/-- The first two bytes of a float word are its upper half. -/
theorem be32_eq_halves (q0 q1 q3 q4 : Byte) : be32 q0 q1 q3 q4 = be16 q0 q1 ++ be16 q3 q4 :=
  BitVec.append_assoc (x₁ := q0 ++ q1) (x₂ := q3) (x₃ := q4)

theorem be32_byte0 (q0 q1 q3 q4 : Byte) : (be32 q0 q1 q3 q4).extractLsb' 24 8 = q0 :=
  (extract_above (k := 16) (q0 ++ q1 ++ q3) q4).trans <|
    (extract_above (k := 8) (q0 ++ q1) q3).trans <| extract_high q0 q1

theorem be32_byte1 (q0 q1 q3 q4 : Byte) : (be32 q0 q1 q3 q4).extractLsb' 16 8 = q1 :=
  (extract_above (k := 8) (q0 ++ q1 ++ q3) q4).trans <|
    (extract_above (k := 0) (q0 ++ q1) q3).trans <| extract_low q0 q1

theorem be32_byte2 (q0 q1 q3 q4 : Byte) : (be32 q0 q1 q3 q4).extractLsb' 8 8 = q3 :=
  (extract_above (k := 0) (q0 ++ q1 ++ q3) q4).trans <| extract_low (q0 ++ q1) q3

theorem be32_byte3 (q0 q1 q3 q4 : Byte) : (be32 q0 q1 q3 q4).extractLsb' 0 8 = q4 :=
  extract_low (q0 ++ q1 ++ q3) q4

/-- A group passes when its last byte is the checksum of the first two (42_frame_codec_decode.md R80). -/
theorem groupOk_of_crc8 {d0 d1 c : Byte} (h : crc8 [d0, d1] = c) : groupOk d0 d1 c = true := by
  simp [groupOk, h]

/-- `DEC_FLOAT` on two groups that pass latches the four data bytes as one float word. -/
theorem exec_decFloat_of_crc8 {a0 a1 ca b0 b1 cb : Byte} (ha : crc8 [a0, a1] = ca) (hb : crc8 [b0, b1] = cb) (s : State) :
    exec (.decFloat a0 a1 ca b0 b1 cb) s = .next (succeed (latchFword (be32 a0 a1 b0 b1) s)) := by
  rw [exec, execDecFloat, groupOk_of_crc8 ha, groupOk_of_crc8 hb]; rfl

/-- Settles O52: the fields of a joined value one by one, and `DEC_FLOAT` latches the joined bytes. -/
theorem bytesJoinAndSplitBigEndian : Obligations.BytesJoinAndSplitBigEndian := by
  refine ⟨fun w => ⟨rfl, be16_hi8_lo8 w⟩, fun a b => ⟨be16_toNat a b, bytesOf_be16 a b⟩, fun q0 q1 q3 q4 => ?_,
    be32_eq_halves, fun q0 q1 q2 q3 q4 q5 s ha hb => ⟨_, exec_decFloat_of_crc8 ha hb s, rfl⟩⟩
  exact ⟨be32_byte0 .., be32_byte1 .., be32_byte2 .., be32_byte3 ..⟩

/-! ### What an operation leaves depends on its word alone -/

/-- The only operation but `CRC_BYTE` that writes the accumulator is `CRC_INIT`. -/
theorem eq_crcInit_of_writeSet {i : Instr} (h : writeSet i = .accumulator) (hi : ∀ b, i ≠ .crcByte b) : i = .crcInit := by
  cases i with
  | crcInit => rfl
  | crcByte b => exact absurd rfl (hi b)
  | _ => cases h

/-- Settles O33: `CRC_INIT` writes a constant, and every other value latched is fixed by the instruction (`exec_effect`). -/
theorem resultsDependOnTheWordAlone : Obligations.ResultsDependOnTheWordAlone := by
  intro i s s' hi
  cases exec_effect i with
  | accumulator hset =>
    obtain rfl := eq_crcInit_of_writeSet hset hi
    exact ⟨_, _, rfl, rfl, by simp [writeSet]⟩
  | shortFrame _ hset h | longFrame _ _ hset h | datum _ hset _ h | float _ hset _ h | noDatum hset _ h | noFloat hset _ h =>
    exact ⟨_, _, h s, h s', by simp [hset]⟩

/-- An instruction other than `CRC_BYTE` latches the second time what its latch already holds. -/
theorem exec_idempotent {i : Instr} (hi : ∀ b, i ≠ .crcByte b) (s : State) :
    ∃ t, exec i s = .next t ∧ exec i t = .next t := by
  cases exec_effect i with
  | accumulator hset =>
    obtain rfl := eq_crcInit_of_writeSet hset hi
    exact ⟨_, rfl, rfl⟩
  | shortFrame _ _ h | longFrame _ _ _ h | datum _ _ _ h | float _ _ _ h | noDatum _ _ h | noFloat _ _ h =>
    exact ⟨_, h s, h _⟩

/-- The same for an operation word: an illegal one raises `IllegalOperation` again. -/
theorem acceptOpWord_idempotent {w : OpWord} (hw : ∀ b, decodeOpw w ≠ .ok (.crcByte b)) (s : State) :
    ∃ t, acceptOpWord w s = .next t ∧ acceptOpWord w t = .next t := by
  cases hdecode : decodeOpw w with
  | ok i =>
    have hrun : ∀ u, acceptOpWord w u = exec i u := acceptWord_ok (w := .opw w) hdecode
    obtain ⟨t, hfirst, hagain⟩ := exec_idempotent (i := i) (fun b hb => hw b (hb ▸ hdecode)) s
    exact ⟨t, (hrun s).trans hfirst, (hrun t).trans hagain⟩
  | error e =>
    have hrun : ∀ u, acceptOpWord w u = .next (raiseError .illegalOperation u) := acceptWord_error (w := .opw w) hdecode
    exact ⟨_, hrun s, hrun _⟩

/-- `CRC_BYTE` absorbs its byte into the accumulator and raises nothing (40_checksum_engine.md R63). -/
theorem exec_crcByte (b : Byte) (s : State) : exec (.crcByte b) s = .next (succeed (writeCrc (crcByte s.crc b) s)) := rfl

/-- `CRC_BYTE` is not idempotent: after reset the byte `0x00` moves the accumulator to `0xAC`, and moves it on from there. -/
theorem crcByte_not_idempotent :
    ∃ (b : Byte) (s t u : State), exec (.crcByte b) s = .next t ∧ exec (.crcByte b) t = .next u ∧ u ≠ t := by
  have hfirst : crcByte State.reset.crc 0x00#8 = 0xAC#8 := by decide
  have hmoves : crcByte 0xAC#8 0x00#8 ≠ 0xAC#8 := by decide
  refine ⟨0x00#8, State.reset, _, _, exec_crcByte _ _, exec_crcByte _ _, fun h => hmoves ?_⟩
  simpa [hfirst] using congrArg State.crc h

/-- Settles O34: the use of a port is the identity where the port carries a value, and the words as above. -/
theorem readsHaveNoEffectAndWordsAreIdempotent : Obligations.ReadsHaveNoEffectAndWordsAreIdempotent :=
  ⟨fun _ _ => usePort_value, fun _ s hw => acceptOpWord_idempotent hw s, crcByte_not_idempotent⟩

/-! ### Steps that perform no word -/

/-- Settles O9: with an empty list there is no event to take. -/
theorem nothingPendingNothingDone : Obligations.NothingPendingNothingDone := fun _ => step_nil

/-- Settles O37: the step takes the read event, and accepting it is the use of its port. -/
theorem readEventUsesThePort : Obligations.ReadEventUsesThePort := by
  intro s p rest hpending
  calc step s = accept (.read p) { s with pending := rest } := step_cons hpending
    _ = usePort p { s with pending := rest } := rfl

end Sys2Proof.Machine
end

section
/-!
Encoding (30_encoding.md R42 to R48, R56): the decoder read backwards, so that decode and encode are inverse to each other; the rows of
R45 as conditions on the fields of a word; the words that match no row; and the frames that the encode operations latch.
-/
namespace Sys2Proof.Machine

/-! ### Decode and encode are inverse to each other -/

/-- The frame opcodes differ from each other, and so do the select codes: the decoder reaches the row that encoded the word. -/
theorem decode_encode (i : Instr) : decode (encode i) = .ok i := by
  cases i with
  | crcInit | crcByte | encCmd | encCmdP | decGroup | decFloat =>
    simp [encode, decode, decodeOpw, withPad, opcodeOperand, parameterOperand]
  | startContinuous par crc | setInterval par crc | setAsc par crc | setFrc par crc | setTempOffset par crc
  | setAltitude par crc =>
    simp [encode, decode, decodeWire5, Config.opcStartContinuous, Config.opcSetInterval, Config.opcSetAsc, Config.opcSetFrc,
      Config.opcSetTempOffset, Config.opcSetAltitude]
  | stopContinuous | getDataReady | readMeasurement | softReset | getFirmwareVersion => rfl

/-- Settles O1: each field of a word put together is the operand it was put together from. -/
theorem decodeOfEncodeIsTheInstruction : Obligations.DecodeOfEncodeIsTheInstruction := decode_encode

/-- An operation is accepted when its unused payload bytes are zero (30_encoding.md R45). -/
theorem withPad_eq_ok {pad : List Byte} {i j : Instr} : withPad pad i = .ok j ↔ padZero pad = true ∧ i = j := by
  unfold withPad
  split <;> simp [*]

/-- An operation word decodes to one of the six operations, and to the one whose encoding it is. -/
theorem encode_of_decodeOpw {w : OpWord} {i : Instr} (h : decodeOpw w = .ok i) : isOperation i = true ∧ encode i = .opw w := by
  have hfields := opWordOf_fields w
  unfold decodeOpw at h
  split_ifs at h with hsel hsel hsel hsel hsel hsel
  all_goals
    obtain ⟨hpad, rfl⟩ := withPad_eq_ok.1 h
    simp only [padZero_cons, padZero_nil, and_true] at hpad
    exact ⟨rfl, by simpa [encode, opcodeOperand, parameterOperand, hsel, hpad] using hfields⟩

/-- A short frame decodes to the command whose opcode it is. -/
theorem encode_of_decodeWire2 {w : BitVec 16} {i : Instr} (h : decodeWire2 w = .ok i) : encode i = .wire2 w := by
  unfold decodeWire2 at h
  split_ifs at h with hopc hopc hopc hopc hopc
  all_goals
    cases h
    exact congrArg Word.wire2 hopc.symm

/-- A long frame is the one put together from its opcode, its parameter and its checksum byte. -/
theorem longFrameOf_opcode {w : BitVec 40} {opc : Half} (h : frameOpcode w = opc) :
    longFrameOf opc (frameParameter w) (frameChecksum w) = w := by
  rw [← h, longFrameOf_fields]

/-- A long frame decodes to the command of its opcode, with its own parameter and checksum byte. -/
theorem encode_of_decodeWire5 {w : BitVec 40} {i : Instr} (h : decodeWire5 w = .ok i) : encode i = .wire5 w := by
  simp only [decodeWire5] at h
  split_ifs at h with hopc hopc hopc hopc hopc hopc
  all_goals
    cases h
    exact congrArg Word.wire5 (longFrameOf_opcode hopc)

/-- Settles O2, format by format. -/
theorem encodeOfDecodedIsTheWord : Obligations.EncodeOfDecodedIsTheWord := by
  intro w i h
  cases w with
  | opw w => exact (encode_of_decodeOpw h).2
  | wire2 w => exact encode_of_decodeWire2 h
  | wire5 w => exact encode_of_decodeWire5 h

/-! ### The rows of R45

Left to right the word is the encoding of what it decodes to, which lies in its row (`Laws.TableRow`); right to left the row fixes the
select code and the pad, and the decoder tests nothing else. -/

/-- A word meets a row when its select code is the row's and each payload byte is zero under its byte of the mask. -/
theorem masked_eq_iff (w : OpWord) (k m0 m1 m2 m3 m4 m5 : Byte) :
    w &&& opWordOf 0xFF#8 m0 m1 m2 m3 m4 m5 = opWordOf k 0#8 0#8 0#8 0#8 0#8 0#8 ↔
      sel w = k ∧ p0 w &&& m0 = 0#8 ∧ p1 w &&& m1 = 0#8 ∧ p2 w &&& m2 = 0#8 ∧ p3 w &&& m3 = 0#8 ∧ p4 w &&& m4 = 0#8 ∧
        p5 w &&& m5 = 0#8 := by
  conv_lhs => rw [← opWordOf_fields w, Laws.TableRow.op_masked, opWordOf_inj]

/-- A pad byte lies under a full byte of the mask. -/
theorem and_full (x : Byte) : x &&& 0xFF#8 = x := BitVec.and_allOnes

/-- A word that decodes has under a mask what the encoding of its instruction has. -/
theorem masked_of_decodeOpw {w m k : OpWord} {i : Instr} (h : decodeOpw w = .ok i)
    (hrow : Laws.TableRow.maskedBy (encode i) (.opw m) = some (.opw k)) : w &&& m = k := by
  rw [(encode_of_decodeOpw h).2] at hrow
  simpa [Laws.TableRow.maskedBy] using hrow

theorem decodes_crcInit_iff (w : OpWord) :
    decodeOpw w = .ok .crcInit ↔ w &&& 0xFFFFFFFFFFFFFF#56 = 0x01000000000000#56 := by
  refine ⟨fun h => masked_of_decodeOpw h Laws.TableRow.crcInit, fun h => ?_⟩
  have hfields := (masked_eq_iff w 0x01#8 0xFF#8 0xFF#8 0xFF#8 0xFF#8 0xFF#8 0xFF#8).1 h
  simp only [and_full] at hfields
  simp [decodeOpw, withPad, hfields]

theorem decodes_crcByte_iff (w : OpWord) :
    (∃ b, decodeOpw w = .ok (.crcByte b)) ↔ w &&& 0xFF00FFFFFFFFFF#56 = 0x02000000000000#56 := by
  refine ⟨fun ⟨b, h⟩ => masked_of_decodeOpw h (Laws.TableRow.crcByte b), fun h => ⟨p0 w, ?_⟩⟩
  have hfields := (masked_eq_iff w 0x02#8 0#8 0xFF#8 0xFF#8 0xFF#8 0xFF#8 0xFF#8).1 h
  simp only [and_full] at hfields
  simp [decodeOpw, withPad, hfields]

theorem decodes_encCmd_iff (w : OpWord) :
    (∃ opc, decodeOpw w = .ok (.encCmd opc)) ↔ w &&& 0xFF0000FFFFFFFF#56 = 0x10000000000000#56 := by
  refine ⟨fun ⟨opc, h⟩ => masked_of_decodeOpw h (Laws.TableRow.encCmd opc), fun h => ⟨opcodeOperand w, ?_⟩⟩
  have hfields := (masked_eq_iff w 0x10#8 0#8 0#8 0xFF#8 0xFF#8 0xFF#8 0xFF#8).1 h
  simp only [and_full] at hfields
  simp [decodeOpw, withPad, hfields]

theorem decodes_encCmdP_iff (w : OpWord) :
    (∃ opc par, decodeOpw w = .ok (.encCmdP opc par)) ↔ w &&& 0xFF00000000FFFF#56 = 0x11000000000000#56 := by
  refine ⟨fun ⟨opc, par, h⟩ => masked_of_decodeOpw h (Laws.TableRow.encCmdP opc par),
    fun h => ⟨opcodeOperand w, parameterOperand w, ?_⟩⟩
  have hfields := (masked_eq_iff w 0x11#8 0#8 0#8 0#8 0#8 0xFF#8 0xFF#8).1 h
  simp only [and_full] at hfields
  simp [decodeOpw, withPad, hfields]

theorem decodes_decGroup_iff (w : OpWord) :
    (∃ d0 d1 c, decodeOpw w = .ok (.decGroup d0 d1 c)) ↔ w &&& 0xFF000000FFFFFF#56 = 0x20000000000000#56 := by
  refine ⟨fun ⟨d0, d1, c, h⟩ => masked_of_decodeOpw h (Laws.TableRow.decGroup d0 d1 c), fun h => ⟨p0 w, p1 w, p2 w, ?_⟩⟩
  have hfields := (masked_eq_iff w 0x20#8 0#8 0#8 0#8 0xFF#8 0xFF#8 0xFF#8).1 h
  simp only [and_full] at hfields
  simp [decodeOpw, withPad, hfields]

theorem decodes_decFloat_iff (w : OpWord) :
    (∃ a0 a1 ca b0 b1 cb, decodeOpw w = .ok (.decFloat a0 a1 ca b0 b1 cb)) ↔
      w &&& 0xFF000000000000#56 = 0x21000000000000#56 := by
  refine ⟨fun ⟨a0, a1, ca, b0, b1, cb, h⟩ => masked_of_decodeOpw h (Laws.TableRow.decFloat a0 a1 ca b0 b1 cb),
    fun h => ⟨p0 w, p1 w, p2 w, p3 w, p4 w, p5 w, ?_⟩⟩
  obtain ⟨hsel, -⟩ := (masked_eq_iff w 0x21#8 0#8 0#8 0#8 0#8 0#8 0#8).1 h
  simp [decodeOpw, withPad, hsel]

/-! ### Words that match no row -/

/-- A word that matches no row does not decode: what it decoded to would be one of the six operations, and the word in its row. -/
theorem decodeOpw_error_of_no_row {w : OpWord} (hcrcInit : w &&& 0xFFFFFFFFFFFFFF#56 ≠ 0x01000000000000#56)
    (hcrcByte : w &&& 0xFF00FFFFFFFFFF#56 ≠ 0x02000000000000#56) (hencCmd : w &&& 0xFF0000FFFFFFFF#56 ≠ 0x10000000000000#56)
    (hencCmdP : w &&& 0xFF00000000FFFF#56 ≠ 0x11000000000000#56) (hdecGroup : w &&& 0xFF000000FFFFFF#56 ≠ 0x20000000000000#56)
    (hdecFloat : w &&& 0xFF000000000000#56 ≠ 0x21000000000000#56) : ∃ e, decodeOpw w = .error e := by
  cases hdecode : decodeOpw w with
  | error e => exact ⟨e, rfl⟩
  | ok i =>
    obtain ⟨hop, -⟩ := encode_of_decodeOpw hdecode
    cases i with
    | crcInit => exact absurd ((decodes_crcInit_iff w).1 hdecode) hcrcInit
    | crcByte b => exact absurd ((decodes_crcByte_iff w).1 ⟨b, hdecode⟩) hcrcByte
    | encCmd opc => exact absurd ((decodes_encCmd_iff w).1 ⟨opc, hdecode⟩) hencCmd
    | encCmdP opc par => exact absurd ((decodes_encCmdP_iff w).1 ⟨opc, par, hdecode⟩) hencCmdP
    | decGroup d0 d1 c => exact absurd ((decodes_decGroup_iff w).1 ⟨d0, d1, c, hdecode⟩) hdecGroup
    | decFloat a0 a1 ca b0 b1 cb => exact absurd ((decodes_decFloat_iff w).1 ⟨a0, a1, ca, b0, b1, cb, hdecode⟩) hdecFloat
    | _ => cases hop

/-- A word whose select code names nothing does not decode, whatever its payload (30_encoding.md R46). -/
theorem decodeOpw_unknownSelect {w : OpWord} (h : sel w ∉ [0x01#8, 0x02#8, 0x10#8, 0x11#8, 0x20#8, 0x21#8]) :
    decodeOpw w = .error .unknownSelect := by
  simp only [List.mem_cons, List.not_mem_nil, or_false, not_or] at h
  simp [decodeOpw, h]

/-- An operation word that does not decode raises `IllegalOperation` (60_exceptions.md R111). -/
theorem acceptOpWord_error {w : OpWord} {e : DecodeError} (h : decodeOpw w = .error e) (s : State) :
    acceptOpWord w s = .next { s with err := 0b10#2 } :=
  acceptWord_error (w := .opw w) h s

/-- A word whose select code lies outside the six is illegal. -/
theorem acceptOpWord_unknownSelect {w : OpWord} (s : State)
    (h : (sel w).toNat = 0 ∨ (3 ≤ (sel w).toNat ∧ (sel w).toNat ≤ 0x0F) ∨
      (0x12 ≤ (sel w).toNat ∧ (sel w).toNat ≤ 0x1F) ∨ 0x22 ≤ (sel w).toNat) :
    acceptOpWord w s = .next { s with err := 0b10#2 } := by
  refine acceptOpWord_error (decodeOpw_unknownSelect fun hmem => ?_) s
  simp only [List.mem_cons, List.not_mem_nil, or_false] at hmem
  obtain hsel | hsel | hsel | hsel | hsel | hsel := hmem <;> simp [hsel] at h

/-- Settles O3: the rows one by one, and a word in none of them does not decode. -/
theorem maskAndMatchSelectTheOperation : Obligations.MaskAndMatchSelectTheOperation := by
  refine ⟨decodes_crcInit_iff, decodes_crcByte_iff, decodes_encCmd_iff, decodes_encCmdP_iff, decodes_decGroup_iff,
    decodes_decFloat_iff, fun w h1 h2 h3 h4 h5 h6 => ?_⟩
  obtain ⟨e, hdecode⟩ := decodeOpw_error_of_no_row h1 h2 h3 h4 h5 h6
  exact ⟨e, hdecode, acceptOpWord_error hdecode⟩

/-- Settles O4: a word in no row does not decode, and neither does one with another select code, the all-zero and the all-ones word
among them. -/
theorem illegalWordSetsErrAndNothingElse : Obligations.IllegalWordSetsErrAndNothingElse := by
  refine ⟨fun w s h1 h2 h3 h4 h5 h6 => ?_, fun w s => acceptOpWord_unknownSelect s,
    fun s => acceptOpWord_unknownSelect s (by decide), fun s => acceptOpWord_unknownSelect s (by decide),
    fun w i h => (encode_of_decodeOpw h).1⟩
  obtain ⟨e, hdecode⟩ := decodeOpw_error_of_no_row h1 h2 h3 h4 h5 h6
  exact acceptOpWord_error hdecode s

/-! ### The frames of the encode operations -/

/-- The frame to send after a short frame is latched. -/
theorem txFrame_latchShortFrame (opc : Half) (s : State) : txFrame (succeed (latchShortFrame opc s)) = bytesOf opc := rfl

/-- The frame to send after a long frame is latched: the checksum covers the parameter bytes (30_encoding.md R48). -/
theorem txFrame_latchLongFrame (opc par : Half) (s : State) :
    txFrame (succeed (latchLongFrame opc par s)) = bytesOf opc ++ bytesOf par ++ [crc8 (bytesOf par)] := rfl

/-- The bytes of a long frame are those of its fields. -/
theorem bytesOfWord_longFrameOf (opc par : Half) (crc : Byte) :
    bytesOfWord (.wire5 (longFrameOf opc par crc)) = bytesOf opc ++ bytesOf par ++ [crc] := by
  simp [bytesOfWord]

/-- A long frame with the right checksum byte is the frame that is latched for it. -/
theorem txFrame_of_longFrameOk {opc par : Half} {crc : Byte} (h : longFrameOk par crc = true) (s : State) :
    txFrame (succeed (latchLongFrame opc par s)) = bytesOfWord (.wire5 (longFrameOf opc par crc)) := by
  obtain rfl : crc8 (bytesOf par) = crc := by simpa [longFrameOk] using h
  rw [txFrame_latchLongFrame, bytesOfWord_longFrameOf]

/-- Settles O20: a short command latches its opcode, and the checksum byte of a well-formed long command is the one latched. -/
theorem wellFormedCommandLatchesItsOwnWord : Obligations.WellFormedCommandLatchesItsOwnWord := by
  intro i s hwf hcommand
  cases i with
  | crcInit | crcByte | encCmd | encCmdP | decGroup | decFloat => cases hcommand
  | stopContinuous | getDataReady | readMeasurement | softReset | getFirmwareVersion =>
    exact ⟨_, rfl, txFrame_latchShortFrame _ s⟩
  | startContinuous | setInterval | setAsc | setFrc | setTempOffset | setAltitude =>
    exact ⟨_, rfl, txFrame_of_longFrameOk hwf s⟩

/-- Five bytes in wire order are the long frame of their fields. -/
theorem append_bytes_eq_longFrameOf (a b c d e : Byte) : a ++ b ++ c ++ d ++ e = longFrameOf (be16 a b) (be16 c d) e :=
  congrArg (· ++ e) (be32_eq_halves a b c d)

/-- The packed port over a long frame (10_state.md R25). -/
theorem portValue_txbufAll_latchLongFrame (opc par : Half) (s : State) :
    portValue (succeed (latchLongFrame opc par s)) .txbufAll = some (longFrameOf opc par (crc8 (bytesOf par))) := by
  have hbytes : portValue (succeed (latchLongFrame opc par s)) .txbufAll =
      some (hi8 opc ++ lo8 opc ++ hi8 par ++ lo8 par ++ crc8 (bytesOf par)) := rfl
  rw [hbytes, append_bytes_eq_longFrameOf, be16_hi8_lo8, be16_hi8_lo8]

/-- A field inside a field. -/
theorem extract_extract {w : Nat} (x : BitVec w) {s n t m : Nat} (h : t + m ≤ n) :
    (x.extractLsb' s n).extractLsb' t m = x.extractLsb' (s + t) m := by
  ext i hi
  simp [show t + i < n by omega, Nat.add_assoc]

/-- The last three bytes of a long frame are a valid group exactly when its checksum byte covers its parameter. -/
theorem groupWordOk_longFrame (w : BitVec 40) :
    groupWordOk (w.extractLsb' 0 24) = longFrameOk (frameParameter w) (frameChecksum w) := by
  have hhi : (w.extractLsb' 0 24).extractLsb' 16 8 = hi8 (frameParameter w) := by simp [hi8, frameParameter, extract_extract]
  have hlo : (w.extractLsb' 0 24).extractLsb' 8 8 = lo8 (frameParameter w) := by simp [lo8, frameParameter, extract_extract]
  have hcrc : (w.extractLsb' 0 24).extractLsb' 0 8 = frameChecksum w := extract_extract w (by decide)
  rw [groupWordOk, hhi, hlo, hcrc]; rfl

/-- Settles O54: the packed port carries the long frame of the operands and their checksum. -/
theorem longFrameOnThePackedPort : Obligations.LongFrameOnThePackedPort := by
  intro opc par s
  refine ⟨_, _, rfl, portValue_txbufAll_latchLongFrame opc par s, frameOpcode_longFrameOf .., frameParameter_longFrameOf ..,
    frameChecksum_longFrameOf .., ?_⟩
  exact (groupWordOk_longFrame _).trans (by simp [longFrameOk])

/-! ### The pseudo-instructions -/

/-- Feeding a list of bytes, one `CRC_BYTE` each, folds them into the accumulator (40_checksum_engine.md R61, R63). -/
theorem execAll_crcByte (bs : List Byte) (s : State) :
    execAll (bs.map .crcByte) (succeed s) = .next (succeed (writeCrc (crcFrom s.crc bs) s)) := by
  induction bs generalizing s with
  | nil => rfl
  | cons b bs ih => exact ih (writeCrc (crcByte s.crc b) s)

/-- The expansion of `CHECKSUM` writes the checksum of its bytes and nothing else but `err`. -/
theorem execAll_pseudoChecksum (bs : List Byte) (s : State) :
    execAll (pseudoChecksum bs) s = .next (succeed (writeCrc (crc8 bs) s)) :=
  execAll_crcByte bs (writeCrc Config.crcInit s)

/-- Settles O57: `CHECKSUM` by its expansion above, `ENCODE` by the one encode operation it stands for. -/
theorem pseudoInstructionsLeaveTheirResults : Obligations.PseudoInstructionsLeaveTheirResults :=
  ⟨fun bs s => ⟨_, execAll_pseudoChecksum bs s, rfl, rfl, rfl, rfl⟩,
    fun opc s => ⟨_, rfl, txFrame_latchShortFrame opc s, rfl⟩,
    fun opc par s => ⟨_, rfl, txFrame_latchLongFrame opc par s, rfl⟩⟩

end Sys2Proof.Machine
end

section
/-!
The checksum as pure functions (40_checksum_engine.md R59 to R61, R65 to R70). Every law comes from three facts about one iteration: its
eight bit equations, its linearity over XOR, and that only zero is taken to zero.
-/
namespace Sys2Proof.Machine

/-! ### Linear maps on bit vectors -/

/-- What holds of zero and of every one-bit word, and of `x ^^^ y` with `x` and `y`, holds of every word. -/
theorem xor_induction {w : Nat} {P : BitVec w → Prop} (zero : P 0#w) (bit : ∀ i < w, P (BitVec.twoPow w i))
    (xor : ∀ x y, P x → P y → P (x ^^^ y)) (x : BitVec w) : P x := by
  have hlow : ∀ n ≤ w, P ((x.setWidth n).setWidth w) := by
    intro n
    induction n with
    | zero =>
      have hzero : (x.setWidth 0).setWidth w = 0#w := by ext; simp
      exact fun _ => hzero ▸ zero
    | succ n ih =>
      intro hn
      have hsplit : (x.setWidth (n + 1)).setWidth w =
          (x.setWidth n).setWidth w ^^^ (if x.getLsbD n then BitVec.twoPow w n else 0#w) := by
        ext j hj
        obtain rfl | hjn := eq_or_ne j n
        · cases h : x.getLsbD j <;> simp_all
        · have hlt : j < n + 1 ↔ j < n := by omega
          cases x.getLsbD n <;> simp [hlt, hjn]
      rw [hsplit]
      refine xor _ _ (ih (by omega)) ?_
      split
      · exact bit n hn
      · exact zero
  simpa using hlow w le_rfl

/-! ### One iteration -/

/-- Bit `i` is the bit below it, with bit 7 XORed on where the polynomial has a term. -/
theorem getElem_crcBit (r : Byte) {i : Nat} (hi : i < 8) :
    (crcBit r)[i] = ((decide (0 < i) && r[i - 1]) ^^ (r[7] && Config.poly[i])) := by
  unfold crcBit
  rw [BitVec.getLsbD_eq_getElem (by decide)]
  cases r[7] <;> cases i <;> simp

/-- Settles O41: the eight equations are `getElem_crcBit` at each bit. -/
theorem crcBitEquations : Obligations.CrcBitEquations := by
  refine ⟨fun r => ?_, fun _ => rfl, by decide⟩
  simp [getElem_crcBit, Config.poly]

theorem crcBit_xor (x y : Byte) : crcBit (x ^^^ y) = crcBit x ^^^ crcBit y := by
  ext i hi
  simp only [getElem_crcBit, BitVec.getElem_xor, Bool.and_xor_distrib_left, Bool.and_xor_distrib_right]
  simp only [Bool.xor_assoc, Bool.xor_left_comm]

/-- Bit 0 of the result is the bit shifted out, and without it the others are only moved. -/
theorem eq_zero_of_crcBit_eq_zero {r : Byte} (h : crcBit r = 0#8) : r = 0#8 := by
  have hbit : ∀ (i : Nat) (hi : i < 8), (crcBit r)[i] = false := by simp [h]
  have htop : r[7] = false := by simpa [getElem_crcBit, Config.poly] using hbit 0 (by decide)
  ext i hi
  obtain rfl | hlow : i = 7 ∨ i + 1 < 8 := by omega
  · simpa using htop
  · simpa [getElem_crcBit, htop] using hbit (i + 1) hlow

theorem crcBit_injective : Function.Injective crcBit := fun x y h =>
  BitVec.xor_eq_zero_iff.1 (eq_zero_of_crcBit_eq_zero (by rw [crcBit_xor, h, BitVec.xor_self]))

/-- Found by evaluating R59 on all 256 values, as R63 says. -/
theorem crcBit_fixed_iff (v : Byte) : crcBit v = v ↔ v = 0x00#8 ∨ v = 0xEF#8 := by
  revert v; decide

/-! ### Several iterations -/

theorem crcBits_xor (n : Nat) (x y : Byte) : crcBits n (x ^^^ y) = crcBits n x ^^^ crcBits n y := by
  induction n generalizing x y with
  | zero => rfl
  | succ n ih => rw [crcBits, crcBits, crcBits, crcBit_xor, ih]

theorem crcBits_add (m n : Nat) (x : Byte) : crcBits (m + n) x = crcBits n (crcBits m x) := by
  induction m generalizing x with
  | zero => rw [Nat.zero_add]; rfl
  | succ m ih => rw [Nat.add_right_comm]; exact ih (crcBit x)

theorem crcBits_injective (n : Nat) : Function.Injective (crcBits n) := by
  induction n with
  | zero => exact fun _ _ h => h
  | succ n ih => exact ih.comp crcBit_injective

@[simp] theorem crcBits_zero (n : Nat) : crcBits n 0#8 = 0#8 := by
  simpa using crcBits_xor n 0#8 0#8

theorem crcBits_eq_zero_iff {n : Nat} {x : Byte} : crcBits n x = 0#8 ↔ x = 0#8 := by
  simpa using (crcBits_injective n).eq_iff (a := x) (b := 0#8)

/-- Eight iterations fix no value that one iteration moves (on all 256 values, R63). -/
theorem crcBits_eight_fixed_iff (v : Byte) : crcBits 8 v = v ↔ v = 0x00#8 ∨ v = 0xEF#8 := by
  revert v; decide

/-! ### One byte -/

theorem crcByte_xor (r1 r2 b1 b2 : Byte) : crcByte (r1 ^^^ r2) (b1 ^^^ b2) = crcByte r1 b1 ^^^ crcByte r2 b2 := by
  unfold crcByte
  rw [← crcBits_xor]
  congr 1
  ac_rfl

/-- The register and the byte enter by their exclusive or alone, and no two of its values are taken to one. -/
theorem crcByte_eq_iff {r b r' b' : Byte} : crcByte r b = crcByte r' b' ↔ r ^^^ b = r' ^^^ b' :=
  (crcBits_injective _).eq_iff

/-- Only the register's own value clears it (R69). -/
theorem crcByte_eq_zero_iff {r b : Byte} : crcByte r b = 0#8 ↔ r = b :=
  crcBits_eq_zero_iff.trans BitVec.xor_eq_zero_iff

@[simp] theorem crcByte_self (r : Byte) : crcByte r r = 0#8 := crcByte_eq_zero_iff.2 rfl

theorem crcByte_zero_right (r : Byte) : crcByte r 0#8 = crcBits 8 r := by
  simp [crcByte, Config.iterations]

/-! ### The two equivalent forms -/

/-- The combinational form depends on the exclusive or alone. -/
theorem crcByteXor_eq (r b : Byte) : crcByteXor r b = crcByteXor (r ^^^ b) 0#8 := by
  rw [crcByteXor, crcByteXor, BitVec.xor_zero]

theorem crcByteXor_xor (x y : Byte) : crcByteXor (x ^^^ y) 0#8 = crcByteXor x 0#8 ^^^ crcByteXor y 0#8 := by
  have hcomm : Std.Commutative (α := Bool) bne := ⟨Bool.xor_comm⟩
  ext i hi
  rw [BitVec.getElem_xor]
  simp only [crcByteXor, BitVec.xor_zero, BitVec.getElem_xor, BitVec.ofBoolListBE, BitVec.getElem_cons]
  interval_cases i <;> simp <;> ac_rfl

/-- Both forms are linear and agree on the eight generating entries of the table (R66, R67). -/
theorem crcBits_eight_eq_crcByteXor (x : Byte) : crcBits 8 x = crcByteXor x 0#8 := by
  have hgenerators : ∀ i : Fin 8, crcBits 8 (BitVec.twoPow 8 i) = crcByteXor (BitVec.twoPow 8 i) 0#8 := by decide
  induction x using xor_induction with
  | zero => rfl
  | bit i hi => exact hgenerators ⟨i, hi⟩
  | xor x y hx hy => rw [crcBits_xor, crcByteXor_xor, hx, hy]

/-- Settles O43: the eight iterations and the eight equations agree at the exclusive or of register and byte. -/
theorem combinationalFormIsTheSameFunction : Obligations.CombinationalFormIsTheSameFunction := fun r b =>
  (crcBits_eight_eq_crcByteXor (r ^^^ b)).trans (crcByteXor_eq r b).symm

/-- The 256 printed entries (95_test_vectors.md V3) are eight iterations each. -/
theorem crcByteTable_zero_right (x : Byte) : crcByteTable x 0#8 = crcBits 8 x := by
  revert x; decide

/-- The table is looked up at the exclusive or alone. -/
theorem crcByteTable_eq (r b : Byte) : crcByteTable r b = crcByteTable (r ^^^ b) 0#8 := by
  simp [crcByteTable]

/-- Settles O44: every entry is eight iterations, so the table is linear as they are. -/
theorem tableFormIsTheSameFunction : Obligations.TableFormIsTheSameFunction := by
  refine ⟨fun r b => ?_, crcByteTable_zero_right, fun x y => ?_, by decide⟩
  · rw [crcByteTable_eq, crcByteTable_zero_right]; rfl
  · simp only [crcByteTable_zero_right, crcBits_xor]

/-! ### The fold over a sequence -/

/-- Settles O42: sequences of zero to nine bytes, evaluated in the kernel. -/
theorem knownChecksums : Obligations.KnownChecksums := by
  unfold Obligations.KnownChecksums
  decide +kernel

theorem crc8_two_zeros : crc8 [0x00#8, 0x00#8] = 0x81#8 := by decide +kernel

theorem crcFrom_append (r : Byte) (s t : List Byte) : crcFrom r (s ++ t) = crcFrom (crcFrom r s) t :=
  List.foldl_append

theorem crcFrom_xor {s t : List Byte} (h : s.length = t.length) (q r : Byte) :
    crcFrom (q ^^^ r) (List.zipWith (· ^^^ ·) s t) = crcFrom q s ^^^ crcFrom r t := by
  induction s generalizing t q r with
  | nil => cases t with
    | nil => rfl
    | cons _ _ => cases h
  | cons a s ih => cases t with
    | nil => cases h
    | cons b t =>
      calc crcFrom (q ^^^ r) (List.zipWith (· ^^^ ·) (a :: s) (b :: t))
          = crcFrom (crcByte q a ^^^ crcByte r b) (List.zipWith (· ^^^ ·) s t) := by rw [← crcByte_xor]; rfl
        _ = crcFrom q (a :: s) ^^^ crcFrom r (b :: t) := ih (Nat.succ.inj h) _ _

theorem zipWith_xor_zeros (s : List Byte) : List.zipWith (· ^^^ ·) s (List.replicate s.length 0#8) = s := by
  induction s with
  | nil => rfl
  | cons a s ih => simp [List.replicate_succ, ih]

/-- The start value contributes what it leaves over as many zero bytes. -/
theorem crc8_eq_crcFrom_zero (s : List Byte) : crc8 s = crcFrom 0#8 s ^^^ crc8 (List.replicate s.length 0#8) := by
  simpa [zipWith_xor_zeros, crc8] using
    crcFrom_xor (t := List.replicate s.length 0#8) List.length_replicate.symm 0#8 Config.crcInit

/-- The checksums of two sequences differ as the zero-start fold of their difference. -/
theorem crc8_xor_crc8 {s t : List Byte} (h : s.length = t.length) :
    crc8 s ^^^ crc8 t = crcFrom 0#8 (List.zipWith (· ^^^ ·) s t) := by
  rw [crc8, crc8, ← crcFrom_xor h, BitVec.xor_self]

/-- Settles O45: linearity at each level, and the two start values cancel in `crc8 s ^^^ crc8 t`. -/
theorem checksumIsLinearUpToItsStart : Obligations.ChecksumIsLinearUpToItsStart := by
  refine ⟨crcBit_xor, crcByte_xor, fun s t h => ?_, fun d0 d1 => ?_⟩
  · rw [crc8_xor_crc8 h, crc8_eq_crcFrom_zero (List.zipWith _ s t), List.length_zipWith, ← h, Nat.min_self]
  · rw [← crc8_two_zeros]; exact crc8_eq_crcFrom_zero [d0, d1]

/-- The last byte is absorbed last. -/
theorem crc8_concat (s : List Byte) (c : Byte) : crc8 (s ++ [c]) = crcByte (crc8 s) c := crcFrom_append _ s [c]

/-- The test of R80 recomputes and compares; three bytes that fold to zero are the same test (R69). -/
theorem groupOk_iff_crc8_eq_zero {d0 d1 c : Byte} : groupOk d0 d1 c = true ↔ crc8 [d0, d1, c] = 0#8 := by
  rw [show crc8 [d0, d1, c] = crcByte (crc8 [d0, d1]) c from crc8_concat [d0, d1] c, crcByte_eq_zero_iff]
  exact beq_iff_eq

/-- Settles O46: the register absorbs its own value. -/
theorem zeroResidue : Obligations.ZeroResidue :=
  ⟨fun s => (crc8_concat s (crc8 s)).trans (crcByte_self _), fun _ _ _ => groupOk_iff_crc8_eq_zero⟩

/-! ### Bijections -/

theorem crcByte_bijective_register (b : Byte) : Function.Bijective fun r => crcByte r b :=
  Finite.injective_iff_bijective.1 fun _ _ h => (BitVec.xor_left_inj b).1 (crcByte_eq_iff.1 h)

theorem crcByte_bijective_byte (r : Byte) : Function.Bijective fun b => crcByte r b :=
  Finite.injective_iff_bijective.1 fun _ _ h => (BitVec.xor_right_inj r).1 (crcByte_eq_iff.1 h)

/-- Each first data byte has exactly one second data byte for each checksum. -/
theorem crc8_pair_existsUnique (d0 c : Byte) : ∃! d1, crc8 [d0, d1] = c :=
  (crcByte_bijective_byte (crc8 [d0])).existsUnique c

/-- The data values of one checksum are counted by their first byte. -/
theorem first_byte_bijective (c : Byte) :
    Function.Bijective fun d : { d : Byte × Byte // crc8 [d.1, d.2] = c } => d.val.1 := by
  constructor
  · rintro ⟨⟨a, b⟩, hb⟩ ⟨⟨_, b'⟩, hb'⟩ (rfl : a = _)
    obtain rfl := (crc8_pair_existsUnique a c).unique hb hb'
    rfl
  · intro a
    obtain ⟨b, hb⟩ := (crc8_pair_existsUnique a c).exists
    exact ⟨⟨(a, b), hb⟩, rfl⟩

/-- Settles O47: an injective map of the 256 bytes to themselves is a bijection, and the count is that of the first bytes. -/
theorem absorbingAByteIsABijection : Obligations.AbsorbingAByteIsABijection := by
  refine ⟨crcByte_bijective_register, crcByte_bijective_byte, crc8_pair_existsUnique, fun c => ?_⟩
  rw [Nat.card_eq_of_bijective _ (first_byte_bijective c), Nat.card_eq_fintype_card, ← FinEnum.card_eq_fintypeCard]
  rfl

end Sys2Proof.Machine
end

section
/-!
What a group test detects (40_checksum_engine.md R71, R72). On a valid group an error pattern shows by its own zero-start checksum, its
syndrome, whatever the data; a flip of bit `k` alone shows as `k + 8` iterations on the value one.
-/
namespace Sys2Proof.Machine

/-! ### The syndrome of an error pattern -/

/-- The three bytes of a group or of an error pattern in wire order (30_encoding.md R49). -/
def groupBytes (g : BitVec 24) : List Byte := [g.extractLsb' 16 8, g.extractLsb' 8 8, g.extractLsb' 0 8]

theorem groupBytes_xor (x y : BitVec 24) : groupBytes (x ^^^ y) = List.zipWith (· ^^^ ·) (groupBytes x) (groupBytes y) := by
  simp [groupBytes, BitVec.extractLsb'_xor]

theorem groupWordOk_iff_crc8_eq_zero {g : BitVec 24} : groupWordOk g = true ↔ crc8 (groupBytes g) = 0#8 :=
  groupOk_iff_crc8_eq_zero

/-- The zero-start fold over the three bytes of an error pattern. -/
def syndrome (e : BitVec 24) : Byte := crcFrom 0x00#8 (groupBytes e)

theorem syndrome_xor (x y : BitVec 24) : syndrome (x ^^^ y) = syndrome x ^^^ syndrome y := by
  rw [syndrome, groupBytes_xor]
  exact crcFrom_xor (s := groupBytes x) (t := groupBytes y) rfl 0x00#8 0x00#8

@[simp] theorem syndrome_zero : syndrome 0#24 = 0#8 := by
  simpa using syndrome_xor 0#24 0#24

/-- An error pattern adds its syndrome to the checksum of the three bytes. -/
theorem crc8_groupBytes_xor (g e : BitVec 24) : crc8 (groupBytes (g ^^^ e)) = crc8 (groupBytes g) ^^^ syndrome e := by
  rw [groupBytes_xor]
  exact crcFrom_xor (s := groupBytes g) (t := groupBytes e) rfl Config.crcInit 0x00#8

/-- An error pattern on a valid group goes unseen exactly when its syndrome is zero. -/
theorem groupWordOk_xor_iff {g e : BitVec 24} (hg : groupWordOk g = true) :
    groupWordOk (g ^^^ e) = true ↔ syndrome e = 0#8 := by
  rw [groupWordOk_iff_crc8_eq_zero, crc8_groupBytes_xor, groupWordOk_iff_crc8_eq_zero.1 hg, BitVec.zero_xor]

/-- A pattern with a syndrome is detected. -/
theorem groupWordOk_xor_eq_false {g e : BitVec 24} (hg : groupWordOk g = true) (he : syndrome e ≠ 0#8) :
    groupWordOk (g ^^^ e) = false :=
  Bool.eq_false_iff.2 fun h => he ((groupWordOk_xor_iff hg).1 h)

/-- Settles O49: the checksum byte of the pattern is absorbed last, and only the register's own value clears it. -/
theorem detectionDoesNotDependOnTheData : Obligations.DetectionDoesNotDependOnTheData := fun _ _ hg =>
  (groupWordOk_xor_iff hg).trans crcByte_eq_zero_iff

/-! ### Flips of one and of two bits -/

/-- The syndrome of one flipped bit: its power of `x`, eight places up for the last byte's iterations. -/
theorem syndrome_twoPow {k : Nat} (hk : k < 24) : syndrome (BitVec.twoPow 24 k) = crcBits (k + 8) 0x01#8 := by
  have hbits : ∀ i : Fin 24, syndrome (BitVec.twoPow 24 i) = crcBits (i + 8) 0x01#8 := by decide +kernel
  exact hbits ⟨k, hk⟩

/-- Iterations on the value one do not come back to it within 23: two powers of `x` fewer than 24 apart differ. -/
theorem crcBits_one_ne {i j : Nat} (hij : i < j) (hj : j < i + 24) : crcBits j 0x01#8 ≠ crcBits i 0x01#8 := by
  have horder : ∀ d : Fin 24, crcBits d 0x01#8 = 0x01#8 → d = 0 := by decide
  intro h
  rw [show j = (j - i) + i by omega, crcBits_add] at h
  have hd := horder ⟨j - i, by omega⟩ (crcBits_injective i h)
  simp only [Fin.mk_eq_zero] at hd
  omega

theorem syndrome_twoPow_xor_twoPow_ne {i j : Fin 24} (h : i ≠ j) :
    syndrome (BitVec.twoPow 24 i ^^^ BitVec.twoPow 24 j) ≠ 0#8 := by
  rw [syndrome_xor, syndrome_twoPow i.isLt, syndrome_twoPow j.isLt, ne_eq, BitVec.xor_eq_zero_iff]
  obtain hlt | hlt := lt_or_gt_of_ne h
  · exact (crcBits_one_ne (by omega) (by omega)).symm
  · exact crcBits_one_ne (by omega) (by omega)

/-! ### Odd flips: the full polynomial has an even number of terms -/

/-- The exclusive or of all bits, at any width. -/
def oddBits {w : Nat} (x : BitVec w) : Bool := (List.range w).foldl (fun acc k => acc ^^ x.getLsbD k) false

theorem oddFlips_eq_oddBits (e : BitVec 24) : oddFlips e = oddBits e := rfl

theorem foldl_xor_getLsbD {w : Nat} (x y : BitVec w) (ks : List Nat) (a b : Bool) :
    ks.foldl (fun acc k => acc ^^ (x ^^^ y).getLsbD k) (a ^^ b) =
      (ks.foldl (fun acc k => acc ^^ x.getLsbD k) a ^^ ks.foldl (fun acc k => acc ^^ y.getLsbD k) b) := by
  induction ks generalizing a b with
  | nil => rfl
  | cons k ks ih =>
    have hstep : (a ^^ b ^^ (x ^^^ y).getLsbD k) = ((a ^^ x.getLsbD k) ^^ (b ^^ y.getLsbD k)) := by
      rw [BitVec.getLsbD_xor]; simp only [Bool.xor_assoc, Bool.xor_left_comm]
    rw [List.foldl_cons, hstep]
    exact ih _ _

theorem oddBits_xor {w : Nat} (x y : BitVec w) : oddBits (x ^^^ y) = (oddBits x ^^ oddBits y) :=
  foldl_xor_getLsbD x y _ false false

/-- A pattern and its syndrome have the same parity, as every one-bit pattern has. -/
theorem oddBits_syndrome (e : BitVec 24) : oddBits (syndrome e) = oddFlips e := by
  have hbits : ∀ k : Fin 24, oddBits (syndrome (BitVec.twoPow 24 k)) = oddFlips (BitVec.twoPow 24 k) := by decide +kernel
  induction e using xor_induction with
  | zero => rw [syndrome_zero]; rfl
  | bit k hk => exact hbits ⟨k, hk⟩
  | xor x y hx hy =>
    rw [oddFlips_eq_oddBits] at hx hy ⊢
    rw [syndrome_xor, oddBits_xor, oddBits_xor, hx, hy]

theorem syndrome_ne_zero_of_oddFlips {e : BitVec 24} (h : oddFlips e = true) : syndrome e ≠ 0#8 := by
  intro hzero
  rw [← oddBits_syndrome, hzero] at h
  exact absurd h (by decide)

theorem oddBits_twoPow (k : Fin 24) : oddBits (BitVec.twoPow 24 k.val) = true := by
  revert k; decide

theorem oddFlips_three (i j k : Fin 24) :
    oddFlips (BitVec.twoPow 24 i ^^^ (BitVec.twoPow 24 j ^^^ BitVec.twoPow 24 k)) = true := by
  rw [oddFlips_eq_oddBits, oddBits_xor, oddBits_xor, oddBits_twoPow, oddBits_twoPow, oddBits_twoPow]; rfl

/-! ### Bursts -/

theorem crcBits_one_eq_twoPow {i : Nat} (hi : i < 8) : crcBits i 0x01#8 = BitVec.twoPow 8 i := by
  have hbits : ∀ i : Fin 8, crcBits i 0x01#8 = BitVec.twoPow 8 i := by decide
  exact hbits ⟨i, hi⟩

theorem twoPow_zeroExtend_shiftLeft {i k : Nat} (hi : i < 8) :
    (BitVec.twoPow 8 i).zeroExtend 24 <<< k = BitVec.twoPow 24 (i + k) := by
  ext j hj
  rw [Bool.eq_iff_iff]
  simp [BitVec.getLsbD_twoPow, hi]
  omega

/-- The syndrome of a burst is that of its byte in the lowest place, as many iterations on as it is moved up. -/
theorem syndrome_burst (v : Byte) {k : Nat} (hk : k ≤ 16) : syndrome (v.zeroExtend 24 <<< k) = crcBits (k + 8) v := by
  induction v using xor_induction with
  | zero => simp
  | bit i hi =>
    rw [twoPow_zeroExtend_shiftLeft hi, syndrome_twoPow (by omega), ← crcBits_one_eq_twoPow hi, ← crcBits_add, Nat.add_assoc]
  | xor x y hx hy =>
    rw [show (x ^^^ y).zeroExtend 24 = x.zeroExtend 24 ^^^ y.zeroExtend 24 from BitVec.setWidth_xor,
      BitVec.shiftLeft_xor_distrib, syndrome_xor, hx, hy, crcBits_xor]

/-- Settles O50: each kind of pattern has a syndrome, and the four-bit pattern of R71 (e) has none. -/
theorem shortErrorsOddErrorsAndBurstsAreDetected : Obligations.ShortErrorsOddErrorsAndBurstsAreDetected := by
  refine ⟨fun g i j hg hij => ?_, fun g i j k hg _ _ _ => ?_, fun g e hg he => ?_, fun g v k hg hv hk => ?_, fun g hg => ?_⟩
  · rw [BitVec.xor_assoc]
    exact groupWordOk_xor_eq_false hg (syndrome_twoPow_xor_twoPow_ne hij)
  · rw [BitVec.xor_assoc, BitVec.xor_assoc]
    exact groupWordOk_xor_eq_false hg (syndrome_ne_zero_of_oddFlips (oddFlips_three i j k))
  · exact groupWordOk_xor_eq_false hg (syndrome_ne_zero_of_oddFlips he)
  · refine groupWordOk_xor_eq_false hg fun hzero => hv ?_
    exact crcBits_eq_zero_iff.1 ((syndrome_burst v hk).symm.trans hzero)
  · exact (groupWordOk_xor_iff hg).2 (by decide +kernel)

/-! ### What a decode operation does with a group that is not valid -/

theorem exec_decGroup_of_not_groupOk {d0 d1 c : Byte} (h : groupOk d0 d1 c = false) (s : State) :
    exec (.decGroup d0 d1 c) s = .next { s with data := none, dataValid := false, err := 0b01#2 } := by
  simp only [exec, execDecGroup, h]; rfl

theorem exec_decFloat_of_not_groupOk {a0 a1 ca b0 b1 cb : Byte} (h : (groupOk a0 a1 ca && groupOk b0 b1 cb) = false) (s : State) :
    exec (.decFloat a0 a1 ca b0 b1 cb) s = .next { s with fword := none, fwordValid := false, err := 0b01#2 } := by
  rw [exec, execDecFloat, h]; rfl

/-- A group as one value is its three bytes in order (30_encoding.md R49). -/
theorem group_bytes_append (g : BitVec 24) : g.extractLsb' 16 8 ++ g.extractLsb' 8 8 ++ g.extractLsb' 0 8 = g := by
  rw [extract_join g 8 8 8, extract_join g 0 8 16]
  simp

/-- Settles O48: one flipped bit is an odd number of them. -/
theorem everySingleBitFlipIsDetected : Obligations.EverySingleBitFlipIsDetected := by
  intro g k s hg
  have hinvalid : groupWordOk (g ^^^ BitVec.twoPow 24 k) = false :=
    groupWordOk_xor_eq_false hg (syndrome_ne_zero_of_oddFlips (oddBits_twoPow k))
  exact ⟨_, _, _, group_bytes_append _, exec_decGroup_of_not_groupOk hinvalid s⟩

/-- Three equal bytes, all zeros or all ones, are no valid group. -/
theorem not_groupOk_stuck {v : Byte} (h : v = 0x00#8 ∨ v = 0xFF#8) : groupOk v v v = false := by
  obtain rfl | rfl := h <;> decide +kernel

/-- Settles O51: the stuck group fails in either place. -/
theorem stuckBusIsRejected : Obligations.StuckBusIsRejected := by
  intro s v hv
  have hbad := not_groupOk_stuck hv
  refine ⟨exec_decGroup_of_not_groupOk hbad s, fun b0 b1 cb => exec_decFloat_of_not_groupOk ?_ s,
    fun a0 a1 ca => exec_decFloat_of_not_groupOk ?_ s, crc8_two_zeros, by decide +kernel⟩
  · rw [hbad, Bool.false_and]
  · rw [hbad, Bool.and_false]

end Sys2Proof.Machine
end

section
/-!
The two operations of the checksum engine (40_checksum_engine.md R62 to R64): each is one equation, and over any words without a further
`CRC_INIT` the accumulator folds the bytes that the `CRC_BYTE` words feed.
-/
namespace Sys2Proof.Machine

theorem decodeOpw_crcInit : decodeOpw 0x01000000000000#56 = .ok .crcInit :=
  (decodes_crcInit_iff _).2 (by decide)

theorem exec_crcInit (s : State) : exec .crcInit s = .next (succeed (writeCrc Config.crcInit s)) := rfl

/-- Writing the value that the accumulator holds changes nothing. -/
theorem writeCrc_eq_self {v : Byte} {s : State} (h : s.crc = v) : writeCrc v s = s := h ▸ rfl

/-- Settles O12: `CRC_INIT` writes the start value. -/
theorem crcInitRestartsTheAccumulator : Obligations.CrcInitRestartsTheAccumulator := by
  refine ⟨decodeOpw_crcInit, fun s => rfl, fun s h => ?_⟩
  rw [exec_crcInit, writeCrc_eq_self (v := Config.crcInit) h]; rfl

/-- `CRC_BYTE` from a known accumulator. -/
theorem exec_crcByte_of_crc {v w b : Byte} (h : crcByte v b = w) {s : State} (hs : s.crc = v) :
    exec (.crcByte b) s = .next { s with crc := w, err := 0b00#2 } := by
  rw [exec_crcByte, hs, h]; rfl

/-- A zero byte leaves the accumulator exactly where eight iterations do. -/
theorem exec_crcByte_zero_iff (s : State) :
    exec (.crcByte 0x00#8) s = .next { s with err := 0b00#2 } ↔ crcBits 8 s.crc = s.crc := by
  rw [← crcByte_zero_right, exec_crcByte]
  constructor
  · intro h
    exact congrArg State.crc (Host.Outcome.next.inj h)
  · intro h
    rw [writeCrc_eq_self h.symm]; rfl

/-- Settles O13: the corner cases are facts about one byte's update. -/
theorem crcByteAbsorbsOneByte : Obligations.CrcByteAbsorbsOneByte := by
  have hBE : crcByte 0xFF#8 0xBE#8 = 0x0C#8 := by decide
  have hEF : crcByte 0x0C#8 0xEF#8 = 0x92#8 := by decide
  exact ⟨fun b => decode_encode (.crcByte b), fun _ _ => rfl, fun s => exec_crcByte_of_crc (crcByte_self s.crc) rfl,
    fun s => (exec_crcByte_zero_iff s).trans (crcBits_eight_fixed_iff s.crc), crcBit_fixed_iff, crcByte_not_idempotent,
    fun _ => exec_crcByte_of_crc hBE, fun _ => exec_crcByte_of_crc hEF⟩

/-! ### The accumulator over a list of words -/

theorem byteFed_of_ok {w : OpWord} {i : Instr} (h : decodeOpw w = .ok i) (hi : ∀ b, i ≠ .crcByte b) : byteFed w = none := by
  unfold byteFed
  rw [h]
  cases i with
  | crcByte b => exact absurd rfl (hi b)
  | _ => rfl

/-- A word other than `CRC_INIT` leaves in the accumulator the fold of the byte it feeds, if it feeds one. -/
theorem acceptOpWord_crc {w : OpWord} (hw : decodeOpw w ≠ .ok .crcInit) (s : State) :
    ∃ t, acceptOpWord w s = .next t ∧ t.crc = crcFrom s.crc (byteFed w).toList := by
  obtain ⟨i, hdecode, hrun⟩ | ⟨e, hdecode, hrun⟩ := acceptOpWord_cases w s
  · by_cases hi : ∃ b, i = .crcByte b
    · obtain ⟨b, rfl⟩ := hi
      exact ⟨_, hrun.trans (exec_crcByte b s), by simp [byteFed, hdecode, crcFrom]⟩
    · have hset : writeSet i ≠ .accumulator := fun hset =>
        hw (eq_crcInit_of_writeSet hset (not_exists.1 hi) ▸ hdecode)
      obtain ⟨t, hexec, hsame⟩ := exec_sameRegisters i s
      have hcrc : t.crc = s.crc := hsame .accumulator hset
      exact ⟨t, hrun.trans hexec, by rw [byteFed_of_ok hdecode (not_exists.1 hi), hcrc]; rfl⟩
  · exact ⟨_, hrun, by simp [byteFed, hdecode, crcFrom]⟩

theorem bytesFed_cons (w : OpWord) (ws : List OpWord) : bytesFed (w :: ws) = (byteFed w).toList ++ bytesFed ws := by
  unfold bytesFed
  cases h : byteFed w <;> simp [h]

/-- Words without a `CRC_INIT` fold the bytes they feed into the accumulator, in order (R64). -/
theorem acceptAll_crc {ws : List OpWord} (hws : ∀ w ∈ ws, decodeOpw w ≠ .ok .crcInit) (s : State) :
    ∃ t, acceptAll ws s = .next t ∧ t.crc = crcFrom s.crc (bytesFed ws) := by
  induction ws generalizing s with
  | nil => exact ⟨s, rfl, rfl⟩
  | cons w ws ih =>
    obtain ⟨hw, hrest⟩ := List.forall_mem_cons.1 hws
    obtain ⟨t, ht, hfirst⟩ := acceptOpWord_crc hw s
    obtain ⟨u, hu, hfold⟩ := ih hrest t
    refine ⟨u, (acceptAll_cons ht ws).trans hu, ?_⟩
    rw [hfold, hfirst, bytesFed_cons, crcFrom_append]

/-- From the start value the `crc` output carries the checksum of the bytes fed. -/
theorem acceptAll_portValue_crc {ws : List OpWord} (hws : ∀ w ∈ ws, decodeOpw w ≠ .ok .crcInit) {s : State}
    (hs : s.crc = Config.crcInit) : ∃ t, acceptAll ws s = .next t ∧ portValue t .crc = some (crc8 (bytesFed ws)) := by
  obtain ⟨t, ht, hcrc⟩ := acceptAll_crc hws s
  exact ⟨t, ht, congrArg some (hcrc.trans (by rw [hs, crc8]))⟩

/-- Settles O39: both `CRC_INIT` and reset leave the start value in the accumulator. -/
theorem accumulatorHoldsTheChecksumOfTheBytesFed : Obligations.AccumulatorHoldsTheChecksumOfTheBytesFed := by
  refine ⟨fun ws s hws => ?_, fun ws s hws => acceptAll_portValue_crc hws (resetBlock_crc s)⟩
  have hinit : acceptOpWord 0x01000000000000#56 s = .next (succeed (writeCrc Config.crcInit s)) :=
    acceptWord_ok (w := .opw 0x01000000000000#56) decodeOpw_crcInit s
  rw [acceptAll_cons hinit]
  exact acceptAll_portValue_crc hws rfl

end Sys2Proof.Machine
end

section
/-!
The two encode operations of the frame codec (41_frame_codec_encode.md R74 to R77): each is one equation, and the last three bytes of a
long frame are a group that decodes back to the parameter.
-/
namespace Sys2Proof.Machine

theorem exec_encCmd (opc : Half) (s : State) : exec (.encCmd opc) s = .next (succeed (latchShortFrame opc s)) := rfl

theorem exec_encCmdP (opc par : Half) (s : State) : exec (.encCmdP opc par) s = .next (succeed (latchLongFrame opc par s)) := rfl

/-- `DEC_GROUP` on a group that passes latches its two data bytes as one value. -/
theorem exec_decGroup_of_crc8 {d0 d1 c : Byte} (h : crc8 [d0, d1] = c) (s : State) :
    exec (.decGroup d0 d1 c) s = .next (succeed (latchData (be16 d0 d1) s)) := by
  rw [exec, execDecGroup, groupOk_of_crc8 h]; rfl

/-- A value with its own checksum decodes back to the value. -/
theorem exec_decGroup_bytesOf (v : Half) (s : State) :
    exec (.decGroup (hi8 v) (lo8 v) (crc8 (bytesOf v))) s = .next (succeed (latchData v s)) := by
  have hcrc : crc8 [hi8 v, lo8 v] = crc8 (bytesOf v) := rfl
  rw [exec_decGroup_of_crc8 hcrc, be16_hi8_lo8]

/-- `VERIFY_TX` on a long frame checks the parameter against the checksum latched with it. -/
theorem pseudoVerifyTx_latchLongFrame (opc par : Half) (s : State) :
    pseudoVerifyTx (succeed (latchLongFrame opc par s)) = some (.decGroup (hi8 par) (lo8 par) (crc8 (bytesOf par))) := rfl

/-- Settles O55: bytes 2 to 4 of a long frame are the parameter and its own checksum, which decode back. -/
theorem encodedParameterDecodesBack : Obligations.EncodedParameterDecodesBack := fun opc par s =>
  ⟨_, _, hi8 par, lo8 par, crc8 (bytesOf par), exec_encCmdP opc par s, rfl, rfl, rfl, pseudoVerifyTx_latchLongFrame opc par s,
    exec_decGroup_bytesOf par _, succeed_err _, latchData_dataValid par _, latchData_data par _, latchData_txbuf par _⟩

/-- Settles O14: the effect is the definition, and the example is its instance at `0x0104`. -/
theorem encCmdBuildsTheShortFrame : Obligations.EncCmdBuildsTheShortFrame :=
  ⟨fun opc => decode_encode (.encCmd opc), exec_encCmd, exec_encCmd 0x0104#16⟩

/-- `ENC_CMD_P` with a parameter whose checksum is known. -/
theorem exec_encCmdP_of_crc8 {par : Half} {c : Byte} (h : crc8 (bytesOf par) = c) (opc : Half) (s : State) :
    exec (.encCmdP opc par) s = .next { s with
      txbuf := #v[some (hi8 opc), some (lo8 opc), some (hi8 par), some (lo8 par), some c], txlen := 5#3, err := 0b00#2 } := by
  subst h; exact exec_encCmdP opc par s

/-- Settles O15: the effect is the definition, and the two parameters of R75 have the checksums it names. -/
theorem encCmdPBuildsTheLongFrame : Obligations.EncCmdPBuildsTheLongFrame := by
  have hzeros : crc8 (bytesOf 0x0000#16) = 0x81#8 := crc8_two_zeros
  have hones : crc8 (bytesOf 0xFFFF#16) = 0xAC#8 := by decide +kernel
  exact ⟨fun opc par => decode_encode (.encCmdP opc par), exec_encCmdP,
    fun opc s => ⟨_, exec_encCmdP_of_crc8 hzeros opc s, rfl⟩, fun opc s => ⟨_, exec_encCmdP_of_crc8 hones opc s, rfl⟩,
    exec_encCmdP_of_crc8 hzeros 0x0010#16⟩

/-- Settles O53: the frame to send is the opcode's bytes, then the parameter's and their checksum, and the bytes of a value join to it. -/
theorem framesAreAsTheOpcodeAndParameterSay : Obligations.FramesAreAsTheOpcodeAndParameterSay := by
  refine ⟨fun opc s => ?_, fun opc par s => ?_, fun opc opc' par s => ?_⟩
  · exact ⟨_, hi8 opc, lo8 opc, exec_encCmd opc s, rfl, txFrame_latchShortFrame opc s, be16_hi8_lo8 opc⟩
  · exact ⟨_, hi8 opc, lo8 opc, hi8 par, lo8 par, crc8 (bytesOf par), exec_encCmdP opc par s, rfl,
      txFrame_latchLongFrame opc par s, be16_hi8_lo8 opc, be16_hi8_lo8 par, rfl⟩
  · exact ⟨_, _, exec_encCmdP opc par s, exec_encCmdP opc' par s, rfl⟩

end Sys2Proof.Machine
end

section
/-!
The two decode operations of the frame codec (42_frame_codec_decode.md R81 to R87): each passes or fails its check as a whole, and
`DEC_FLOAT` is two `DEC_GROUP`s side by side. What they do with groups that pass and with groups that do not stands above
(`exec_decGroup_of_crc8`, `exec_decFloat_of_crc8`, `exec_decGroup_of_not_groupOk`, `exec_decFloat_of_not_groupOk`).
-/
namespace Sys2Proof.Machine

/-! ### One group -/

theorem crcByte_zero_left (b : Byte) : crcByte 0#8 b = crcBits 8 b := by
  simp [crcByte, Config.iterations]

/-- A pair and its swap differ by `d0 ^^^ d1` in both places, and the second place clears what the first leaves only when eight
iterations do not move it. -/
theorem crc8_swap_iff (d0 d1 : Byte) : crc8 [d0, d1] = crc8 [d1, d0] ↔ crcBits 8 (d0 ^^^ d1) = d0 ^^^ d1 := by
  have hdiff : crc8 [d0, d1] ^^^ crc8 [d1, d0] = crcByte (crcByte 0#8 (d0 ^^^ d1)) (d1 ^^^ d0) := crc8_xor_crc8 rfl
  rw [← BitVec.xor_eq_zero_iff, hdiff, crcByte_eq_zero_iff, crcByte_zero_left, BitVec.xor_comm d1 d0]

theorem crc8_swap_iff_of_ne {d0 d1 : Byte} (h : d0 ≠ d1) : crc8 [d0, d1] = crc8 [d1, d0] ↔ d0 ^^^ d1 = 0xEF#8 := by
  have hdiff : d0 ^^^ d1 ≠ 0x00#8 := mt BitVec.xor_eq_zero_iff.1 h
  rw [crc8_swap_iff, crcBits_eight_fixed_iff, or_iff_right hdiff]

/-- Settles O16: the effect is that of a group that passes or of one that does not, and the examples are instances of the two. -/
theorem decGroupChecksAndUnpacks : Obligations.DecGroupChecksAndUnpacks := by
  have hpass : crc8 [0x00#8, 0x01#8] = 0xB0#8 := by decide +kernel
  have hfail : groupOk 0x00#8 0x01#8 0xB1#8 = false := by decide +kernel
  exact ⟨fun d0 d1 c => decode_encode (.decGroup d0 d1 c), fun _ _ _ s h => exec_decGroup_of_crc8 h s,
    fun _ _ _ s h => exec_decGroup_of_not_groupOk (not_groupOk.2 h) s, exec_decGroup_of_crc8 hpass,
    exec_decGroup_of_not_groupOk hfail, not_groupOk.1 (not_groupOk_stuck (.inl rfl)),
    not_groupOk.1 (not_groupOk_stuck (.inr rfl)), fun _ _ => crc8_swap_iff_of_ne⟩

/-! ### A pair of groups -/

theorem not_both_groupOk {a0 a1 ca b0 b1 cb : Byte} :
    (groupOk a0 a1 ca && groupOk b0 b1 cb) = false ↔ crc8 [a0, a1] ≠ ca ∨ crc8 [b0, b1] ≠ cb := by
  rw [Bool.and_eq_false_iff, not_groupOk, not_groupOk]

/-- A float word is its four bytes. -/
theorem be32_fields (f : FloatWord) :
    be32 (f.extractLsb' 24 8) (f.extractLsb' 16 8) (f.extractLsb' 8 8) (f.extractLsb' 0 8) = f := by
  unfold be32
  rw [extract_join f 16 8 8, extract_join f 8 8 16, extract_join f 0 8 24]
  simp

/-- Every pattern is accepted: no check looks at the word itself (42_frame_codec_decode.md R84). -/
theorem exec_decFloat_fields (f : FloatWord) (s : State) : ∃ ca cb,
    exec (.decFloat (f.extractLsb' 24 8) (f.extractLsb' 16 8) ca (f.extractLsb' 8 8) (f.extractLsb' 0 8) cb) s =
      .next (succeed (latchFword f s)) :=
  ⟨_, _, (exec_decFloat_of_crc8 rfl rfl s).trans (by rw [be32_fields])⟩

/-- Settles O17: as O16, for two groups; the exchanged pair passes by the same two checks. -/
theorem decFloatChecksBothGroupsAndAssembles : Obligations.DecFloatChecksBothGroupsAndAssembles := by
  have hupper : crc8 [0x43#8, 0xDB#8] = 0xCB#8 := by decide +kernel
  have hlower : crc8 [0x85#8, 0x1F#8] = 0xB8#8 := by decide +kernel
  have hfail : (groupOk 0x43#8 0xDB#8 0xCB#8 && groupOk 0x85#8 0x1F#8 0xB9#8) = false := by decide +kernel
  exact ⟨fun a0 a1 ca b0 b1 cb => decode_encode (.decFloat a0 a1 ca b0 b1 cb),
    fun _ _ _ _ _ _ s ha hb => exec_decFloat_of_crc8 ha hb s,
    fun _ _ _ _ _ _ s h => exec_decFloat_of_not_groupOk (not_both_groupOk.2 h) s,
    fun _ _ _ _ _ _ s ha hb => exec_decFloat_of_crc8 hb ha s, exec_decFloat_fields,
    exec_decFloat_of_crc8 hupper hlower, exec_decFloat_of_not_groupOk hfail⟩

/-! ### The pair against its two groups -/

/-- `DEC_GROUP` in every state: its valid bit is the outcome of its check, and the float latch stays. -/
theorem exec_decGroup_next (d0 d1 c : Byte) (s : State) : ∃ u, exec (.decGroup d0 d1 c) s = .next u ∧
    u.dataValid = groupOk d0 d1 c ∧ (groupOk d0 d1 c = true → u.data = some (be16 d0 d1)) ∧
    u.fword = s.fword ∧ u.fwordValid = s.fwordValid := by
  cases h : groupOk d0 d1 c with
  | true => exact ⟨_, exec_decGroup_of_crc8 (beq_iff_eq.1 h) s, rfl, fun _ => rfl, rfl, rfl⟩
  | false => exact ⟨_, exec_decGroup_of_not_groupOk h s, rfl, nofun, rfl, rfl⟩

/-- `DEC_FLOAT` in every state: its valid bit is the outcome of both checks, and the datum latch stays. -/
theorem exec_decFloat_next (a0 a1 ca b0 b1 cb : Byte) (s : State) : ∃ t, exec (.decFloat a0 a1 ca b0 b1 cb) s = .next t ∧
    t.fwordValid = (groupOk a0 a1 ca && groupOk b0 b1 cb) ∧
    (groupOk a0 a1 ca = true → groupOk b0 b1 cb = true → t.fword = some (be32 a0 a1 b0 b1)) ∧
    t.data = s.data ∧ t.dataValid = s.dataValid := by
  cases h : groupOk a0 a1 ca && groupOk b0 b1 cb with
  | true =>
    obtain ⟨ha, hb⟩ := Bool.and_eq_true_iff.1 h
    exact ⟨_, exec_decFloat_of_crc8 (beq_iff_eq.1 ha) (beq_iff_eq.1 hb) s, rfl, fun _ _ => rfl, rfl, rfl⟩
  | false =>
    exact ⟨_, exec_decFloat_of_not_groupOk h s, rfl, fun ha hb => by simp [ha, hb] at h, rfl, rfl⟩

theorem be32_upper (a0 a1 b0 b1 : Byte) : (be32 a0 a1 b0 b1).extractLsb' 16 16 = be16 a0 a1 := by
  rw [be32_eq_halves]; exact extract_high ..

theorem be32_lower (a0 a1 b0 b1 : Byte) : (be32 a0 a1 b0 b1).extractLsb' 0 16 = be16 b0 b1 := by
  rw [be32_eq_halves]; exact extract_low ..

/-- Settles O56: the three operations make the same two checks, and the float word is the two data values joined. -/
theorem decFloatAgreesWithTwoDecGroups : Obligations.DecFloatAgreesWithTwoDecGroups := by
  intro a0 a1 ca b0 b1 cb s s1 s2
  obtain ⟨t, ht, htValid, htWord, htData, htDataValid⟩ := exec_decFloat_next a0 a1 ca b0 b1 cb s
  obtain ⟨u, hu, huValid, huData, huWord, huWordValid⟩ := exec_decGroup_next a0 a1 ca s1
  obtain ⟨v, hv, hvValid, hvData, -, -⟩ := exec_decGroup_next b0 b1 cb s2
  refine ⟨t, u, v, ht, hu, hv, by rw [htValid, huValid, hvValid], fun hvalid => ?_, htData, htDataValid, huWord, huWordValid⟩
  obtain ⟨ha, hb⟩ := Bool.and_eq_true_iff.1 (htValid.symm.trans hvalid)
  exact ⟨_, _, _, htWord ha hb, huData ha, hvData hb, be32_upper .., be32_lower ..⟩

/-! ### The numeric reading of a float word -/

/-- Settles O60: seven words, read by the definition. -/
theorem floatReadingOfTheExample : Obligations.FloatReadingOfTheExample := by
  unfold Obligations.FloatReadingOfTheExample
  decide

end Sys2Proof.Machine
end

section
/-!
The sensor commands and the software around the block (45_wire_commands.md R89 to R108): which wire frames are commands and the frames
they latch; a measurement, decoded float by float; and the session.
-/
namespace Sys2Proof.Machine

/-! ### Which wire frames are commands -/

/-- The word that encodes an instruction is accepted. -/
theorem acceptWord_next_of_encode {w : Word} {i : Instr} (h : encode i = w) (s : State) : ∃ t, acceptWord w s = .next t := by
  obtain ⟨t, hexec, -⟩ := exec_next_pending i s
  exact ⟨t, (acceptWord_ok (h ▸ decode_encode i) s).trans hexec⟩

theorem decodeWire2_unknownOpcode {w : BitVec 16} (h : w ∉ [0x0104#16, 0x0202#16, 0x0300#16, 0xD304#16, 0xD100#16]) :
    decodeWire2 w = .error .unknownOpcode := by
  simp only [List.mem_cons, List.not_mem_nil, or_false, not_or] at h
  simp [decodeWire2, Config.opcStopContinuous, Config.opcGetDataReady, Config.opcReadMeasurement, Config.opcSoftReset,
    Config.opcGetFirmwareVersion, h]

theorem decodeWire5_unknownOpcode {w : BitVec 40}
    (h : frameOpcode w ∉ [0x0010#16, 0x4600#16, 0x5306#16, 0x5204#16, 0x5403#16, 0x5102#16]) :
    decodeWire5 w = .error .unknownOpcode := by
  simp only [List.mem_cons, List.not_mem_nil, or_false, not_or] at h
  simp [decodeWire5, Config.opcStartContinuous, Config.opcSetInterval, Config.opcSetAsc, Config.opcSetFrc,
    Config.opcSetTempOffset, Config.opcSetAltitude, h]

/-- Each of the five short opcodes is the frame of its command. -/
theorem exists_encode_wire2 {w : BitVec 16} (h : w ∈ [0x0104#16, 0x0202#16, 0x0300#16, 0xD304#16, 0xD100#16]) :
    ∃ i, encode i = .wire2 w := by
  simp only [List.mem_cons, List.not_mem_nil, or_false] at h
  obtain rfl | rfl | rfl | rfl | rfl := h
  · exact ⟨.stopContinuous, rfl⟩
  · exact ⟨.getDataReady, rfl⟩
  · exact ⟨.readMeasurement, rfl⟩
  · exact ⟨.softReset, rfl⟩
  · exact ⟨.getFirmwareVersion, rfl⟩

/-- A long frame with one of the six long opcodes is the frame of its command, whatever its parameter and its checksum byte. -/
theorem exists_encode_wire5 {w : BitVec 40}
    (h : frameOpcode w ∈ [0x0010#16, 0x4600#16, 0x5306#16, 0x5204#16, 0x5403#16, 0x5102#16]) :
    ∃ i, encode i = .wire5 w := by
  simp only [List.mem_cons, List.not_mem_nil, or_false] at h
  obtain h | h | h | h | h | h := h
  · exact ⟨.startContinuous _ _, congrArg Word.wire5 (longFrameOf_opcode h)⟩
  · exact ⟨.setInterval _ _, congrArg Word.wire5 (longFrameOf_opcode h)⟩
  · exact ⟨.setAsc _ _, congrArg Word.wire5 (longFrameOf_opcode h)⟩
  · exact ⟨.setFrc _ _, congrArg Word.wire5 (longFrameOf_opcode h)⟩
  · exact ⟨.setTempOffset _ _, congrArg Word.wire5 (longFrameOf_opcode h)⟩
  · exact ⟨.setAltitude _ _, congrArg Word.wire5 (longFrameOf_opcode h)⟩

/-- Settles O11: a frame outside the lists does not decode and is refused, and one inside is the encoding of a command. -/
theorem unknownCommandFrameIsRefused : Obligations.UnknownCommandFrameIsRefused := by
  refine ⟨fun w s h => ?_, fun w s h => ?_, fun w h => ?_, fun w h => ?_⟩
  · exact acceptWord_error (w := .wire2 w) (decodeWire2_unknownOpcode h) s
  · exact acceptWord_error (w := .wire5 w) (decodeWire5_unknownOpcode h) s
  · obtain ⟨i, hencode⟩ := exists_encode_wire2 h
    exact acceptWord_next_of_encode hencode
  · obtain ⟨i, hencode⟩ := exists_encode_wire5 h
    exact acceptWord_next_of_encode hencode

/-! ### The frames the commands latch -/

/-- A command without a parameter latches the two bytes of its opcode. -/
theorem issueShort_eq {opc : Half} {a b : Byte} (ha : hi8 opc = a) (hb : lo8 opc = b) (s : State) :
    issueShort opc s = .next { s with txbuf := #v[some a, some b, none, none, none], txlen := 2#3, err := 0b00#2 } := by
  subst ha hb; rfl

/-- Settles O18: each of the five issues its own opcode, whose two bytes are those of the statement. -/
theorem shortCommandsBuildTheirFrames : Obligations.ShortCommandsBuildTheirFrames :=
  ⟨issueShort_eq rfl rfl, issueShort_eq rfl rfl, issueShort_eq rfl rfl, issueShort_eq rfl rfl, issueShort_eq rfl rfl⟩

/-- A command with a parameter latches its opcode, the parameter, and the checksum computed from the parameter. -/
theorem issueLong_eq (opc par : Half) (s : State) :
    issueLong opc par s = .next
      { s with
        txbuf := #v[some (hi8 opc), some (lo8 opc), some (hi8 par), some (lo8 par), some (crc8 [hi8 par, lo8 par])]
        txlen := 5#3
        err := 0b00#2 } := rfl

/-- Settles O19: each of the six issues its own opcode with its parameter, and none uses the checksum byte of its word. -/
theorem longCommandsBuildTheirFrames : Obligations.LongCommandsBuildTheirFrames := by
  intro par crc s command opc h
  simp only [List.mem_cons, Prod.mk.injEq, List.not_mem_nil, or_false] at h
  obtain ⟨rfl, rfl⟩ | ⟨rfl, rfl⟩ | ⟨rfl, rfl⟩ | ⟨rfl, rfl⟩ | ⟨rfl, rfl⟩ | ⟨rfl, rfl⟩ := h
  all_goals exact issueLong_eq _ par s

/-! ### Driver calls -/

section
variable {α β : Type} {d d' : DriverState}

theorem driverThen_ok {m : DriverCall α} {a : α} (h : m d = (.ok a, d')) (f : α → DriverCall β) : driverThen m f d = f a d' := by
  simp [driverThen, h]

/-- A failure is propagated at once (60_exceptions.md R118). -/
theorem driverThen_failed {m : DriverCall α} {e : DriverError} (h : m d = (.failed e, d')) (f : α → DriverCall β) :
    driverThen m f d = (.failed e, d') := by
  simp [driverThen, h]

theorem driverPerform_next {i : Instr} {t : State} (h : exec i d.block = .next t) :
    driverPerform i d = (.ok (), { d with block := t }) := by
  simp [driverPerform, h]

theorem driverOutcome_ok (h : d.block.err = errOk) : driverOutcome d = (.ok (), d) := if_pos h

theorem driverOutcome_failed (h : d.block.err ≠ errOk) : driverOutcome d = (.failed .checksumMismatch, d) := if_neg h

theorem driverUse_some {latch : State → Option α} {v : α} (h : latch d.block = some v) : driverUse latch d = (.ok v, d) := by
  simp [driverUse, h]

theorem whenOpen_opened {f : BitVec 7 → DriverCall α} {addr : BitVec 7} (h : d.session = .opened addr) :
    whenOpen f d = f addr d := by
  simp [whenOpen, h]

theorem whenOpen_closed {f : BitVec 7 → DriverCall α} (h : d.session = .closed) :
    whenOpen f d = (.failed .invalidState, d) := by
  simp [whenOpen, h]

end

/-! ### The measurement -/

/-- A float operation that passes yields its word, and the rest goes on from the state it left. -/
theorem decodeFloats_cons_pass {i : Instr} {v : FloatWord} {d : DriverState}
    (h : exec i d.block = .next (succeed (latchFword v d.block))) (is : List Instr) :
    decodeFloats (i :: is) d = driverThen (decodeFloats is) (fun fs d' => (.ok (v :: fs), d'))
      { d with block := succeed (latchFword v d.block) } := by
  rw [decodeFloats, driverThen_ok (driverPerform_next h), driverThen_ok (driverOutcome_ok rfl),
    driverThen_ok (driverUse_some (latch := State.fword) rfl)]

/-- A float operation that fails ends the decoding, whatever follows it (42_frame_codec_decode.md R83). -/
theorem decodeFloats_cons_fail {i : Instr} {l : DecodeLatch} {d : DriverState}
    (h : exec i d.block = .next (raiseError (.checksumMismatch l) d.block)) (is : List Instr) :
    ∃ d', decodeFloats (i :: is) d = (.failed .checksumMismatch, d') := by
  refine ⟨{ d with block := raiseError (.checksumMismatch l) d.block }, ?_⟩
  rw [decodeFloats, driverThen_ok (driverPerform_next h),
    driverThen_failed (driverOutcome_failed (by simp [errChecksumMismatch, errOk]))]

/-- Operations that pass one and all yield their words in order. -/
theorem decodeFloats_pass {is : List Instr} {fs : List FloatWord}
    (h : List.Forall₂ (fun i v => ∀ s, exec i s = .next (succeed (latchFword v s))) is fs) (d : DriverState) :
    ∃ d', decodeFloats is d = (.ok fs, d') := by
  induction h generalizing d with
  | nil => exact ⟨d, rfl⟩
  | cons hexec _ ih =>
    rw [decodeFloats_cons_pass (hexec d.block)]
    obtain ⟨d', htail⟩ := ih _
    exact ⟨d', driverThen_ok htail _⟩

/-- One failing operation fails the list: those before it pass and the decoding reaches it. -/
theorem decodeFloats_fail {is : List Instr} (hfloat : ∀ i ∈ is, writeSet i = .float) (hfail : ∃ i ∈ is, checkFails i)
    (d : DriverState) : ∃ d', decodeFloats is d = (.failed .checksumMismatch, d') := by
  induction is generalizing d with
  | nil => simp at hfail
  | cons i is ih =>
    obtain ⟨hhead, htail⟩ := List.forall_mem_cons.1 hfloat
    cases exec_effect i with
    | float v _ hpass h =>
      have hrest : ∃ j ∈ is, checkFails j := ((List.exists_mem_cons_iff ..).1 hfail).resolve_left hpass
      rw [decodeFloats_cons_pass (h d.block)]
      obtain ⟨d', hfailed⟩ := ih htail hrest _
      exact ⟨d', driverThen_failed hfailed _⟩
    | noFloat _ _ h => exact decodeFloats_cons_fail (h d.block) is
    | accumulator hset | shortFrame _ hset | longFrame _ _ hset | datum _ hset | noDatum hset => simp [hset] at hhead

theorem not_checkFails_decFloat {a0 a1 ca b0 b1 cb : Byte} :
    ¬ checkFails (.decFloat a0 a1 ca b0 b1 cb) ↔ crc8 [a0, a1] = ca ∧ crc8 [b0, b1] = cb := by
  rw [checkFails_decFloat, not_both_groupOk, not_or, not_not, not_not]

/-- Settles O58: the 18 bytes are three `DEC_FLOAT` operations, which all pass or of which one fails. -/
theorem measurementNeedsAllSixGroups : Obligations.MeasurementNeedsAllSixGroups := by
  intro x0 x1 x2 x3 x4 x5 y0 y1 y2 y3 y4 y5 z0 z1 z2 z3 z4 z5 d
  split_ifs with h
  · obtain ⟨hx, hx', hy, hy', hz, hz'⟩ := h
    obtain ⟨d', hfloats⟩ := decodeFloats_pass (.cons (exec_decFloat_of_crc8 hx hx') <| .cons (exec_decFloat_of_crc8 hy hy') <|
      .cons (exec_decFloat_of_crc8 hz hz') .nil) d
    exact congrArg Prod.fst (driverThen_ok hfloats _)
  · have hfail : ∃ i ∈ [Instr.decFloat x0 x1 x2 x3 x4 x5, .decFloat y0 y1 y2 y3 y4 y5, .decFloat z0 z1 z2 z3 z4 z5],
        checkFails i := by
      by_contra hnone
      exact h (by simpa [not_checkFails_decFloat, and_assoc] using hnone)
    obtain ⟨d', hfailed⟩ := decodeFloats_fail (by simp [writeSet]) hfail d
    exact congrArg Prod.fst (driverThen_failed hfailed _)

/-! ### The session -/

theorem writeCommand_closed {d : DriverState} (h : d.session = .closed) (i : Instr) :
    writeCommand i d = (.failed .invalidState, d) := whenOpen_closed h

theorem readCommand_closed {d : DriverState} (h : d.session = .closed) (i : Instr) (len : Nat) :
    readCommand i len d = (.failed .invalidState, d) := whenOpen_closed h

theorem dataReadyCall_closed {d : DriverState} (h : d.session = .closed) (rule : ReadyRule) :
    dataReadyCall rule d = (.failed .invalidState, d) := driverThen_failed (readCommand_closed h _ _) _

theorem firmwareCall_closed {d : DriverState} (h : d.session = .closed) (check : Bool) :
    firmwareCall check d = (.failed .invalidState, d) := driverThen_failed (readCommand_closed h _ _) _

theorem openSession_closed {d : DriverState} (h : d.session = .closed) (check : Bool) (addr : BitVec 7) :
    openSession check addr d = (.failed .invalidState, d) := by
  simp [openSession, h]

theorem closeSession_closed {d : DriverState} (h : d.session = .closed) : closeSession d = (.failed .invalidState, d) := by
  simp [closeSession, h]

/-- A bus write is one call, whatever the transport answers. -/
theorem busWrite_calls (addr : BitVec 7) (bs : List Byte) (d : DriverState) :
    (busWrite addr bs d).2.calls = .write addr bs :: d.calls := by
  unfold busWrite
  split <;> rfl

/-- A write command on an open session writes the frame it has the block build. -/
theorem writeCommand_opened {d : DriverState} {addr : BitVec 7} (h : d.session = .opened addr) {i : Instr} {t : State}
    (hexec : exec i d.block = .next t) : writeCommand i d = busWrite addr (txFrame t) { d with block := t } := by
  rw [writeCommand, whenOpen_opened h, driverThen_ok (driverPerform_next hexec)]

/-- Close of an open session reports what Stop continuous mode answered, and ends Closed. -/
theorem closeSession_opened {d : DriverState} {addr : BitVec 7} (h : d.session = .opened addr) :
    closeSession d = (.ok (writeCommand .stopContinuous d).1, { (writeCommand .stopContinuous d).2 with session := .closed }) := by
  simp [closeSession, h]

/-- Settles O59: on a closed session each call fails where it asks for the address; Close of an open one makes the one bus write of
Stop continuous mode. -/
theorem closedIsTerminalAndCloseEndsAnOpenSession : Obligations.ClosedIsTerminalAndCloseEndsAnOpenSession := by
  refine ⟨fun d i len rule check x addr h => ?_, fun d addr h => ⟨_, _, closeSession_opened h, rfl, ?_⟩⟩
  · exact ⟨writeCommand_closed h i, readCommand_closed h i len, driverThen_failed (readCommand_closed h _ _) _,
      dataReadyCall_closed h rule, dataReadyCall_closed h _, firmwareCall_closed h check, firmwareCall_closed h _,
      writeCommand_closed h _, openSession_closed h check addr, closeSession_closed h⟩
  · have hstop : exec .stopContinuous d.block = .next (succeed (latchShortFrame Config.opcStopContinuous d.block)) := rfl
    rw [writeCommand_opened h hstop, txFrame_latchShortFrame]
    exact busWrite_calls addr _ _

end Sys2Proof.Machine
end

section
/-!
The errors of the block (60_exceptions.md R109 to R117): a failed check, by the latch of the instruction that made it.
-/
namespace Sys2Proof.Machine

/-- Settles O22: an instruction whose check fails raises `ChecksumMismatch` for its own latch, `data` or `fword`; every other one
ends with the outcome `OK`. -/
theorem checksumMismatchEmptiesItsOwnLatch : Obligations.ChecksumMismatchEmptiesItsOwnLatch := by
  refine ⟨fun i s hfail => ⟨?_, writeSet_of_checkFails hfail⟩, fun i s hpass => ?_⟩
  · obtain ⟨l, hexec, ⟨hset, rfl⟩ | ⟨hset, rfl⟩⟩ := exec_of_checkFails hfail s
    all_goals rw [hexec, hset]; rfl
  · obtain ⟨u, hexec⟩ := exec_of_not_checkFails hpass s
    exact ⟨_, hexec, succeed_err u⟩

end Sys2Proof.Machine
end

section
/-!
Reset and hazards (70_reset_and_hazards.md R122 to R133): what completes, what reset leaves, when a latch may be used, and bytes fed
without a fresh `CRC_INIT`.
-/
namespace Sys2Proof.Machine

/-- Settles O24: each named operation that an instruction can end in answers a next state and leaves the host's list. -/
theorem everyInstructionCompletes : Obligations.EveryInstructionCompletes := exec_next_pending

/-- Settles O25, by induction on the list of words: each word completes, legal or not, and the others go on from there. -/
theorem everyRunOfWordsCompletes : Obligations.EveryRunOfWordsCompletes := by
  intro ws
  induction ws with
  | nil => exact fun s => ⟨s, rfl, rfl⟩
  | cons w ws ih =>
    intro s
    obtain ⟨t, ht, hfirst⟩ := acceptOpWord_next_pending w s
    obtain ⟨u, hu, hrest⟩ := ih t
    exact ⟨u, (acceptAll_cons ht ws).trans hu, hrest.trans hfirst⟩

/-! ### Reset -/

/-- Settles O27: the step takes the reset event, and accepting it looks neither at the operation nor at the registers. -/
theorem resetEventOverridesTheOperation : Obligations.ResetEventOverridesTheOperation := by
  intro s op rest hpending
  calc step s = accept (.reset op) { s with pending := rest } := step_cons hpending
    _ = .next { State.reset with pending := rest } := rfl

theorem emptyFrame_getElem (i : Fin 5) : emptyFrame[i] = none := by
  fin_cases i <;> rfl

/-- Reset leaves the start value and the outcome `OK`, so bytes fed right after it are checksummed as after `CRC_INIT` (R123). -/
theorem execAll_crcByte_resetBlock (bs : List Byte) (s : State) :
    execAll (bs.map .crcByte) (resetBlock s) = .next (succeed (writeCrc (crc8 bs) (resetBlock s))) :=
  execAll_crcByte bs (resetBlock s)

/-- Settles O28: `CRC_INIT` writes the accumulator and `err` only, reset empties every latch, and from either the bytes are folded from
the start value. -/
theorem resetAndCrcInitAgreeOnTheAccumulator : Obligations.ResetAndCrcInitAgreeOnTheAccumulator := fun s =>
  ⟨_, exec_crcInit s, rfl, rfl, rfl, rfl, rfl, rfl, rfl, emptyFrame_getElem, rfl, rfl, rfl, rfl, rfl,
    fun bs => ⟨_, _, execAll_crcByte_resetBlock bs s, execAll_pseudoChecksum bs s, rfl, rfl⟩⟩

/-! ### The use of a latch -/

/-- Where it is known when a port carries a value, it is known when its use is the host's fault. -/
theorem usePort_eq_ite {p : Port} {s : State} {P : Prop} [Decidable P] (h : (portValue s p).isSome ↔ P) :
    usePort p s = if P then .next s else .fault (.emptyLatch p) :=
  if_congr h rfl rfl

theorem usePort_of_portValue_eq_none {p : Port} {s : State} (h : portValue s p = none) :
    usePort p s = .fault (.emptyLatch p) :=
  usePort_empty (by simp [h])

/-- Under the invariant the valid bits and the length tell the host which latches it may use (R126). -/
theorem State.Inv.usePort_latch {s : State} (h : s.Inv) :
    (usePort .data s = if s.dataValid then .next s else .fault (.emptyLatch .data)) ∧
    (usePort .fword s = if s.fwordValid then .next s else .fault (.emptyLatch .fword)) ∧
    ∀ i : Fin 5, usePort (.txbuf i) s = if i.val < s.txlen.toNat then .next s else .fault (.emptyLatch (.txbuf i)) := by
  obtain ⟨-, hframe, -, ⟨hdata, hfword⟩, -⟩ := h
  refine ⟨usePort_eq_ite ?_, usePort_eq_ite ?_, fun i => usePort_eq_ite ?_⟩
  · rw [portValue_data, hdata]
  · rw [portValue_fword, hfword]
  · rw [portValue_txbuf, hframe i, decide_eq_true_iff]

/-- After a `ChecksumMismatch` the latch of the instruction that raised it may not be used (R126). -/
theorem usePort_of_checkFails {i : Instr} (hfail : checkFails i) (s : State) : ∃ t, exec i s = .next t ∧
    (writeSet i = .datum → usePort .data t = .fault (.emptyLatch .data)) ∧
    (writeSet i = .float → usePort .fword t = .fault (.emptyLatch .fword)) := by
  obtain ⟨l, hexec, ⟨hset, rfl⟩ | ⟨hset, rfl⟩⟩ := exec_of_checkFails hfail s
  · exact ⟨_, hexec, fun _ => usePort_of_portValue_eq_none (raiseError_data_data s), fun h => by simp [hset] at h⟩
  · exact ⟨_, hexec, fun h => by simp [hset] at h, fun _ => usePort_of_portValue_eq_none (raiseError_fword_fword s)⟩

/-- Settles O35: the invariant ties each latch to its valid bit or the length, and reset and a failed check leave latches empty. -/
theorem emptyLatchFaultsTheHost : Obligations.EmptyLatchFaultsTheHost :=
  ⟨fun _ => State.Inv.usePort_latch, usePort_of_portValue_eq_none rfl, usePort_of_portValue_eq_none rfl,
    fun i => usePort_of_portValue_eq_none (emptyFrame_getElem i), fun _ s hfail => usePort_of_checkFails hfail s⟩

/-! ### Bytes without a fresh `CRC_INIT` -/

/-- The checksum of two sequences is the second folded on from the checksum of the first (R125). -/
theorem crc8_append (bs cs : List Byte) : crc8 (bs ++ cs) = crcFrom (crc8 bs) cs := crcFrom_append Config.crcInit bs cs

/-- Settles O40: one `CRC_INIT` and the bytes of both sequences are the expansion of `CHECKSUM` on the two joined. -/
theorem bytesWithoutCrcInitContinue : Obligations.BytesWithoutCrcInitContinue := by
  have hjoined : crc8 [0x00#8, 0x01#8, 0xBE#8, 0xEF#8] = 0x82#8 := by decide +kernel
  have halone : crc8 [0xBE#8, 0xEF#8] = 0x92#8 := by decide +kernel
  refine ⟨fun bs cs s _ => ⟨_, execAll_pseudoChecksum (bs ++ cs) s, crc8_append bs cs, rfl⟩,
    fun s => ⟨_, execAll_pseudoChecksum [0x00#8, 0x01#8, 0xBE#8, 0xEF#8] s, ?_, halone⟩⟩
  rw [succeed_crc, writeCrc_crc, hjoined]

end Sys2Proof.Machine
end

section
/-!
Words written out from the spec (30_encoding.md R55, R57, 95_test_vectors.md V4, V9), and the word of a second host.
-/
namespace Sys2Proof.Machine

/-- Table bits that are the encoding of an instruction decode to that instruction. -/
theorem decodeTableWord_of_encode {nbits w : Nat} {i : Instr} (h : wordOfBits nbits w = some (encode i)) :
    decodeTableWord nbits w = some i := by
  simp [decodeTableWord, h, decode_encode, Except.toOption]

/-- Table bits of an operation word that the decoder rejects, for whatever reason, are no instruction. -/
theorem decodeTableWord_of_decodeOpw_error {w : Nat} {e : DecodeError} (h : decodeOpw (BitVec.ofNat 56 w) = .error e) :
    decodeTableWord 56 w = none := by
  simp [decodeTableWord, wordOfBits, decode, h, Except.toOption]

/-- Settles O5: eight of the words are encodings, one is a `CRC_BYTE` word with its last pad byte set (R45), and one has a select code
that names nothing (R46). -/
theorem specWordsDecodeAsWritten : Obligations.SpecWordsDecodeAsWritten := by
  have hpad : decodeOpw 0x02BE00000000FF#56 = .error .nonZeroPad := rfl
  have hselect : decodeOpw 0x22000081000000#56 = .error .unknownSelect := decodeOpw_unknownSelect (by decide)
  refine ⟨?_, ?_, ?_, ?_, ?_, ?_, decodeTableWord_of_decodeOpw_error hpad, decodeTableWord_of_decodeOpw_error hselect, ?_, ?_⟩
  all_goals exact decodeTableWord_of_encode rfl

/-- Settles O10: the step takes the second host's word, and accepting it is refused by name. -/
theorem secondHostIsRefused : Obligations.SecondHostIsRefused := by
  intro s w rest hpending
  calc step s = accept (.secondHost w) { s with pending := rest } := step_cons hpending
    _ = .refused .secondHost := rfl

end Sys2Proof.Machine
end
